-- ==== Sys2Proof/Word.lean ====
section
/-! DEFINITION. The word types of the Arcowen E48: bytes, the 48-channel bitmap and the small sets (spec/11 section 11.2), and
what "a 32-bit number that follows 2^32 − 1 with 0" does. -/

namespace Sys2Proof

/-- A byte on a link. -/
abbrev Byte := BitVec 8

/-- One bit for each of the 48 channels: levels, held sets and channel sets (spec/11 section 11.2, "channel bitmap"). -/
abbrev Bitmap := BitVec 48

/-- A set of capture slots 0 … 7: bit n stands for slot n. -/
abbrev SlotSet := BitVec 8

/-- A set of supply groups 0 … 5: bit n stands for group n. -/
abbrev GroupSet := BitVec 6

/-- The set of channels that satisfy `p`. -/
def Bitmap.ofChannels (p : Fin 48 → Bool) : Bitmap := BitVec.ofFnLE p

/-- A count or sequence number of 32 bits: 2^32 − 1 is followed by 0. -/
def wrap32 (n : Nat) : Nat := n % 4294967296

/-- A number of 1 … 65535 that follows 65535 with 1 (serials, session numbers, fault seqs). -/
def next65535 (n : Nat) : Nat := if n ≥ 65535 then 1 else n + 1

/-- The smallest whole number not less than a / b. -/
def ceilDiv (a b : Nat) : Nat := (a + b - 1) / b

end Sys2Proof
end

