-- ==== Sys2Proof/Syntax.lean ====
section
/-! DEFINITION. The happenings of the E48: one constructor for each row of spec/opcode_table.json, with its operands. A host command's
operands are the link it comes on, its SEQ and the fields of its body (spec/11 Table of R181) as they stand on the line, so that an
out-of-range field can be written. An event's operands are what comes from outside the part (pins, characters, the choice of which
engine or link acts). -/

namespace Sys2Proof

/-- The two host links. -/
inductive Link where
  | A
  | B
  deriving DecidableEq, Repr

/-- The two extraction engines. -/
inductive Engine where
  | e0
  | e1
  deriving DecidableEq, Repr

/-- Who hands the fault log a fault: faults of different reporters come in any order (R150). -/
inductive Reporter where
  | sample
  | engine (e : Engine)
  | triggerUnit
  deriving DecidableEq, Repr

/-- Who hands the pool blocks back (R102). -/
inductive BlockGiver where
  | slotTable
  | engine (e : Engine)
  deriving DecidableEq, Repr

/-- Who hands the journal a TRIGGER or TRIGGER_REFUSED entry (R130). -/
inductive EntryGiver where
  | triggerUnit
  | injector
  deriving DecidableEq, Repr

/-- Which answer reaches an engine late (R98): the pool's, or the ring's. -/
inductive LateAnswer where
  | grant
  | ringRead
  deriving DecidableEq, Repr

/-- One row of spec/opcode_table.json each, in the table's order. -/
inductive Instr where
  | hello (l : Link) (seq : Byte)
  | bye (l : Link) (seq : Byte)
  | ping (l : Link) (seq : Byte)
  | get (l : Link) (seq : Byte) (item : BitVec 16)
  | set (l : Link) (seq : Byte) (item : BitVec 16) (value : List Byte)
  | deviceReset (l : Link) (seq : Byte) (keepConfig : Byte)
  | start (l : Link) (seq : Byte)
  | stop (l : Link) (seq : Byte)
  | snapshot (l : Link) (seq : Byte)
  | trigger (l : Link) (seq : Byte) (slot kind : Byte) (tick : BitVec 40) (pre post label : BitVec 16)
  | abort (l : Link) (seq : Byte) (slot force : Byte)
  | slotStatus (l : Link) (seq : Byte) (slot : Byte)
  | fetch (l : Link) (seq : Byte) (slot claim fromPart : Byte)
  | release (l : Link) (seq : Byte) (slot : Byte) (serial : BitVec 16)
  | journalSubscribe (l : Link) (seq : Byte) (position : Byte)
  | journalAck (l : Link) (seq : Byte) (upTo : BitVec 32)
  | journalRewind (l : Link) (seq : Byte)
  | journalUnsubscribe (l : Link) (seq : Byte)
  | test (l : Link) (seq : Byte) (channels : Bitmap) (delay width gap : BitVec 16) (count slot : Byte) (trigDelay label : BitVec 16)
  | testCancel (l : Link) (seq : Byte)
  | faultsRead (l : Link) (seq : Byte)
  | faultsClear (l : Link) (seq : Byte) (upTo : BitVec 16)
  | sample (pins : Bitmap) (senses : GroupSet)
  | debounceComplete (c : Fin 48) (pins : Bitmap) (senses : GroupSet)
  | chatterWindowExpiry (c : Fin 48) (pins : Bitmap) (senses : GroupSet)
  | quietCountdownExpiry (c : Fin 48) (pins : Bitmap) (senses : GroupSet)
  | supplyLost (g : Fin 6) (pins : Bitmap) (senses : GroupSet)
  | supplyBack (g : Fin 6) (pins : Bitmap) (senses : GroupSet)
  | ringAppend
  | journalTakeSample
  | triggerUnitTakeSample
  | alertCountdownExpiry
  | slotTableTakeSample
  | faultRecord (r : Reporter)
  | tickLimitStop
  | journalRunStart
  | journalRunStop
  | slotTableTakeStop
  | triggerUnitTakeStop
  | injectorTakeStop
  | rowDamage (tick : Nat) (levels held : Bitmap) (test : Bool) (syndrome : Nat)
  | lineWord (bits : BitVec 13)
  | lineAnswer
  | slotTableOffer
  | journalTakeTriggerEntry (g : EntryGiver)
  | testDelayExpiry (pins : Bitmap) (senses : GroupSet)
  | testPhaseExpiry (pins : Bitmap) (senses : GroupSet)
  | engineTakeSlot
  | extractionBegin (e : Engine)
  | extractionRow (e : Engine)
  | blockRequest (e : Engine) (pick : Nat)
  | blockAnswer (e : Engine)
  | extractionEnd (e : Engine)
  | extractionEndTaken (e : Engine)
  | engineDrop (e : Engine)
  | lateEngineAnswer (e : Engine) (a : LateAnswer)
  | poolReturn (g : BlockGiver)
  | readoutTakeReady (l : Link)
  | readoutTakeAbort (l : Link)
  | readoutTakeRelease (l : Link)
  | slotTableTakeSessionEnd (l : Link)
  | readoutTakeSessionEnd (l : Link)
  | journalTakeSessionEnd (l : Link)
  | frameReceived (l : Link)
  | gapTimeout (l : Link)
  | characterFramingError (l : Link) (wasHigh : Bool)
  | lineBreak (l : Link) (wasHigh : Bool)
  | sessionTimeout (l : Link)
  | transmitChoose (l : Link)
  | journalFrameRequest (l : Link)
  | frameSent (l : Link)
  | journalFrameCompletion (l : Link)
  | linkRateTakeUp (l : Link)
  | resetCarriedOut
  | hardReset
  | characterReceived (l : Link) (c : Byte)
  | lineStartBit (stillLow : Bool) (wasHigh : Bool)
  | resetPinAsserted
  deriving DecidableEq, Repr

end Sys2Proof
end

