-- ==== Sys2Proof/Decode.lean ====
section
/-! DEFINITION. No row of spec/opcode_table.json gives bits to its happening, so no table word spells one. The byte layouts of the
host commands (spec/11 section 11.3) are read where a frame is judged, in Machine/Commands.lean. -/

namespace Sys2Proof

/-- The command that a table word spells: none, because no row of the table gives bits. -/
def decodeTableWord (_nbits _w : Nat) : Option Instr := none

end Sys2Proof
end

