-- ==== Sys2Proof/Config.lean ====
section
/-! DEFINITION. What one E48 fixes: the capacities and names of R159, and the two values its manual leaves open. -/

namespace Sys2Proof

/-- The last tick the part can make (R32). -/
def Config.tickMax : Nat := 1099511627775

/-- Rows of the history ring (R37). -/
def Config.ringRows : Nat := 4096

/-- Blocks of the record pool (R100). -/
def Config.poolBlocks : Nat := 128

/-- Records a block holds (R100). -/
def Config.blockRecords : Nat := 32

/-- Records a capture may hold (R93). -/
def Config.captureRecords : Nat := 1024

/-- Records a part frame may carry (R115). -/
def Config.partRecords : Nat := 56

/-- Entries the journal may hold (R125). -/
def Config.journalEntries : Nat := 1024

/-- The journal credit of a subscriber (R136). -/
def Config.journalCredit : Nat := 64

/-- Entries a journal frame may carry (R136). -/
def Config.frameEntries : Nat := 16

/-- Records the fault log may hold (R149). -/
def Config.faultRecords : Nat := 4

/-- Places of a link's reply queue (R169). -/
def Config.replyPlaces : Nat := 4

/-- Places of a readout unit's delivery queue (R104). -/
def Config.deliveryPlaces : Nat := 8

/-- The vendor name "Vessaro", padded to 8 bytes (R159). -/
def Config.vendorName : List Byte := [0x56, 0x65, 0x73, 0x73, 0x61, 0x72, 0x6F, 0x00]

/-- The family name "Arcowen", padded to 8 bytes (R159). -/
def Config.familyName : List Byte := [0x41, 0x72, 0x63, 0x6F, 0x77, 0x65, 0x6E, 0x00]

/-- The part name "E48", padded to 4 bytes (R159). -/
def Config.partName : List Byte := [0x45, 0x34, 0x38, 0x00]

/-- The revision of the part this manual describes (R159). -/
def Config.revision : Nat := 1

/-- The 16 capacities of IDENT, in the order R159 lists them. -/
def Config.capacities : List Nat :=
  [48, 6, 4, 8, 2, 4096, 128, 32, 1024, 56, 1024, 64, 16, 4, 4, 8]

/-- UNVERIFIED (log 10). What the unit number is made from: set when the part is made, and not stated. No body: nothing can be proved
of its value. -/
opaque Config.unitSeed : Nat

/-- The unit number of R159, 1 … 2^32 − 1: the open value, kept inside the range the rule gives. -/
def Config.unitNumber : Nat := Config.unitSeed % 4294967295 + 1

/-- UNVERIFIED (log 8). The check code of a row from its tick, levels, held set and test marker (R36). The manual gives neither the
function nor its width. No body: nothing can be proved of its value. -/
opaque Config.rowCheckCode : Nat → Bitmap → Bitmap → Bool → Nat

end Sys2Proof
end

