-- ==== Sys2Proof/Machine/State.lean ====
section
/-! DEFINITION. Everything the E48 holds, block by block, as plain data, and the part right after a hard reset. Each structure cites
the rule that gives its fields and their reset values. -/

namespace Sys2Proof.Machine

/-! ## One value for each link, one for each engine -/

/-- A value held for each of the two links. -/
structure PerLink (α : Type) where
  a : α
  b : α
  deriving DecidableEq, Repr

/-- The value of one link. -/
def PerLink.get {α : Type} (p : PerLink α) : Link → α
  | .A => p.a
  | .B => p.b

/-- The pair with one link's value replaced. -/
def PerLink.set {α : Type} (p : PerLink α) (l : Link) (x : α) : PerLink α :=
  match l with
  | .A => { p with a := x }
  | .B => { p with b := x }

/-- A value held for each of the two engines. -/
structure PerEngine (α : Type) where
  x0 : α
  x1 : α
  deriving DecidableEq, Repr

/-- The value of one engine. -/
def PerEngine.get {α : Type} (p : PerEngine α) : Engine → α
  | .e0 => p.x0
  | .e1 => p.x1

/-- The pair with one engine's value replaced. -/
def PerEngine.set {α : Type} (p : PerEngine α) (e : Engine) (x : α) : PerEngine α :=
  match e with
  | .e0 => { p with x0 := x }
  | .e1 => { p with x1 := x }

/-- The other link. -/
def otherLink : Link → Link
  | .A => .B
  | .B => .A

/-! ## Items (spec/09 section 9.1) -/

/-- The six link rates (R157). -/
inductive Rate where
  | r115200
  | r230400
  | r460800
  | r921600
  | r1843200
  | r3000000
  deriving DecidableEq, Repr

/-- A channel record (R1). -/
structure ChannelRecord where
  enabled : Bool
  invert : Bool
  profile : Fin 4
  journal : Bool
  alert : Bool
  auto : Bool
  deriving DecidableEq, Repr

/-- A conditioning profile (R2). -/
structure Profile where
  debounce : Nat
  chatterLimit : Nat
  chatterWindow : Nat
  chatterQuiet : Nat
  deriving DecidableEq, Repr

/-- A default window of a slot (R46). -/
structure Window where
  pre : Nat
  post : Nat
  deriving DecidableEq, Repr

/-- The configuration items (spec/09 section 9.1). -/
structure Items where
  tickPeriod : Nat
  lineEnable : Bool
  lineLag : Nat
  autoSlots : SlotSet
  autoHoldoff : Nat
  alertWidth : Nat
  supplyMonitor : GroupSet
  supplyLossTicks : Nat
  supplyReturnTicks : Nat
  sessionTimeout : Nat
  rateA : Rate
  rateB : Rate
  epochLabel : Vector Byte 8
  windows : Vector Window 8
  profiles : Vector Profile 4
  channels : Vector ChannelRecord 48
  deriving DecidableEq, Repr

/-- The defaults of a channel record (R1). -/
def ChannelRecord.default : ChannelRecord :=
  { enabled := true, invert := false, profile := 0, journal := true, alert := false, auto := false }

/-- The defaults of the four profiles (R2). -/
def Profile.default (p : Fin 4) : Profile :=
  if p.val = 0 then { debounce := 3, chatterLimit := 20, chatterWindow := 1000, chatterQuiet := 2000 }
  else { debounce := 1, chatterLimit := 0, chatterWindow := 1000, chatterQuiet := 2000 }

/-- Every item at its default (spec/09 section 9.1). -/
def Items.default : Items where
  tickPeriod := 1000
  lineEnable := false
  lineLag := 4
  autoSlots := 0xC0
  autoHoldoff := 50
  alertWidth := 10
  supplyMonitor := 0x3F
  supplyLossTicks := 5
  supplyReturnTicks := 100
  sessionTimeout := 3000
  rateA := .r921600
  rateB := .r921600
  epochLabel := Vector.replicate 8 0
  windows := Vector.replicate 8 { pre := 200, post := 200 }
  profiles := Vector.ofFn Profile.default
  channels := Vector.replicate 48 ChannelRecord.default

/-! ## Timebase (R26) -/

/-- Why the last run stopped (R26). -/
inductive StopReason where
  | none
  | stop
  | limit
  deriving DecidableEq, Repr

/-- The timebase's state (R26); the epoch label is the item `Items.epochLabel`. -/
structure Timebase where
  running : Bool
  tick : Nat
  runStart : Option Nat
  stopReason : StopReason
  limitReached : Bool
  period : Nat
  bootEpoch : Nat
  deriving DecidableEq, Repr

/-- The timebase after a hard reset (R26). -/
def Timebase.reset : Timebase where
  running := false
  tick := 0
  runStart := .none
  stopReason := .none
  limitReached := false
  period := 1000
  bootEpoch := 0

/-! ## Input conditioner (R3, R13, R20) -/

/-- The reasons a channel may be held for (R3). -/
inductive HoldReason where
  | chatter
  | supply
  | disabled
  deriving DecidableEq, Repr

/-- The set of hold reasons of a channel (R3). -/
structure Holds where
  chatter : Bool
  supply : Bool
  disabled : Bool
  deriving DecidableEq, Repr

/-- An open chatter window (R3, R9). -/
structure ChatterWindow where
  remaining : Nat
  count : Nat
  deriving DecidableEq, Repr

/-- A channel's working state (R3). -/
structure Channel where
  level : Bool
  holds : Holds
  debounce : Nat
  prevRaw : Bool
  window : Option ChatterWindow
  quiet : Option Nat
  injected : Bool
  record : ChannelRecord
  profile : Profile
  deriving DecidableEq, Repr

/-- A supply-group monitor (R13). -/
structure Monitor where
  lost : Bool
  absent : Nat
  present : Nat
  deriving DecidableEq, Repr

/-- The kinds of change a channel reports (R20). -/
inductive ChangeKind where
  | rise
  | fall
  | hold (r : HoldReason)
  | live (level ret : Bool)
  deriving DecidableEq, Repr

/-- A change of the change list (R20). -/
structure Change where
  channel : Fin 48
  kind : ChangeKind
  test : Bool
  journal : Bool
  alert : Bool
  auto : Bool
  deriving DecidableEq, Repr

/-- A SUPPLY_LOST (`lost`) or SUPPLY_BACK event (R14, R15). -/
structure SupplyEvent where
  group : Fin 6
  lost : Bool
  deriving DecidableEq, Repr

/-- The conditioned sample (R20). -/
structure Conditioned where
  tick : Nat
  levels : Bitmap
  held : Bitmap
  test : Bool
  events : List SupplyEvent
  changes : List Change
  deriving DecidableEq, Repr

/-- The conditioner's state: channels (R3), monitors (R13), the mark of R22 that the next sample is the first of the run, and the tick
of the last sample worked on (R25). -/
structure Conditioner where
  channels : Vector Channel 48
  monitors : Vector Monitor 6
  firstDue : Bool
  lastTick : Option Nat
  deriving DecidableEq, Repr

/-- No hold reason. -/
def Holds.empty : Holds := { chatter := false, supply := false, disabled := false }

/-- A channel after reset (R3): its record and profile in use are the item values. -/
def Channel.reset (record : ChannelRecord) (profile : Profile) : Channel where
  level := false
  holds := Holds.empty
  debounce := 0
  prevRaw := false
  window := none
  quiet := none
  injected := false
  record := record
  profile := profile

/-- A monitor after reset: OK with both counts at 0 (R13). -/
def Monitor.reset : Monitor := { lost := false, absent := 0, present := 0 }

/-- The conditioner after a reset that leaves these items (R3, R13, R25). -/
def Conditioner.reset (items : Items) : Conditioner where
  channels := Vector.ofFn fun c : Fin 48 =>
    Channel.reset items.channels[c] items.profiles[items.channels[c].profile]
  monitors := Vector.replicate 6 Monitor.reset
  firstDue := true
  lastTick := none

/-! ## Test injector (R143) -/

/-- The fields of a test run that are present whenever the injector is not IDLE (R143). DESIGN CHOICE (log 37): `first` and `last` are kept
whole, above 2^40 − 1 too. -/
structure TestRun where
  channels : Bitmap
  width : Nat
  gap : Nat
  count : Nat
  label : Nat
  trigger : Option (Fin 8 × Nat)
  first : Nat
  last : Nat
  deriving DecidableEq, Repr

/-- The injector's state (R143): `injecting run pulse high remaining`. -/
inductive Injector where
  | idle
  | delay (run : TestRun) (remaining : Nat)
  | injecting (run : TestRun) (pulse : Nat) (high : Bool) (remaining : Nat)
  deriving DecidableEq, Repr

/-! ## History ring (R36) -/

/-- A row of the ring (R36). The stored check code is held by the bits in which it differs from the code computed again from the row's
other fields: no bit while the row is intact (R41; log 8). -/
structure Row where
  tick : Nat
  levels : Bitmap
  held : Bitmap
  test : Bool
  syndrome : Nat
  deriving DecidableEq, Repr

/-! ## Triggers (R43, R52, R56) -/

/-- Where a trigger comes from (R43). -/
inductive Source where
  | linkA
  | linkB
  | line
  | auto
  | test
  deriving DecidableEq, Repr

/-- The slot request of an offer (R43). -/
inductive SlotRequest where
  | numbered (n : Nat)
  | any
  | auto
  deriving DecidableEq, Repr

/-- The reference of an offer (R43); `unknown` is a reference kind the source cannot give (R47, check 4). -/
inductive Reference where
  | absolute (tick : Nat)
  | now
  | lagged
  | ahead (ticks : Nat)
  | unknown
  deriving DecidableEq, Repr

/-- A trigger offer (R43); an absent pre or post is DEFAULT. -/
structure Offer where
  source : Source
  request : SlotRequest
  reference : Reference
  pre : Option Nat
  post : Option Nat
  label : Nat
  test : Bool
  deriving DecidableEq, Repr

/-- The result codes of Table 11-2. -/
inductive Result where
  | ok
  | pending
  | queued
  | unknownKind
  | badLength
  | badValue
  | noSession
  | resetting
  | readOnly
  | unknownItem
  | notRunning
  | notStopped
  | busy
  | limit
  | slotBusy
  | noSlot
  | windowGone
  | tooFar
  | noCapture
  | fetchPending
  | claimed
  | notHolder
  | stale
  | alreadyQueued
  | notSubscribed
  | alreadySubscribed
  | testBusy
  deriving DecidableEq, Repr

/-- The slot table's answer to an offer (R43): acceptance with slot, serial, R, S and E, or a refusal code with the slot it had chosen,
if any (R58). -/
inductive Answer where
  | accepted (slot : Fin 8) (serial : Nat) (ref start stop : Int)
  | refused (code : Result) (slot : Option (Fin 8))
  deriving DecidableEq, Repr

/-- The trigger unit's state (R52, R56, R63 to R65). -/
structure TriggerUnit where
  receiving : Bool
  awaitHigh : Bool
  lineAccepted : Nat
  lineRefused : Nat
  lineIgnored : Nat
  lineParity : Nat
  lineFraming : Nat
  autoAccepted : Nat
  autoMissed : Nat
  autoRefused : Nat
  autoIgnored : Nat
  autoHeldOff : Nat
  alertTransitions : Nat
  holdoff : Nat
  alertCountdown : Nat
  alert : Bool
  deriving DecidableEq, Repr

/-- The trigger unit after reset (R52, R65). -/
def TriggerUnit.reset : TriggerUnit where
  receiving := false
  awaitHigh := false
  lineAccepted := 0
  lineRefused := 0
  lineIgnored := 0
  lineParity := 0
  lineFraming := 0
  autoAccepted := 0
  autoMissed := 0
  autoRefused := 0
  autoIgnored := 0
  autoHeldOff := 0
  alertTransitions := 0
  holdoff := 0
  alertCountdown := 0
  alert := false

/-! ## Slot table (R66, R68, R70, R71, R84) -/

/-- The flags of a capture (R66). -/
structure Flags where
  early : Bool
  overrun : Bool
  stopped : Bool
  full : Bool
  poolShort : Bool
  rowError : Bool
  testSeen : Bool
  deriving DecidableEq, Repr

/-- No flag set. -/
def Flags.empty : Flags :=
  { early := false, overrun := false, stopped := false, full := false, poolShort := false, rowError := false, testSeen := false }

/-- The states of a slot other than EMPTY (R66). The claim holder is present exactly in CLAIMED (R105). -/
inductive Phase where
  | armed
  | queued
  | extracting
  | ready
  | claimed (holder : Link)
  deriving DecidableEq, Repr

/-- A pending fetch (R105). -/
structure PendingFetch where
  link : Link
  claim : Bool
  fromPart : Nat
  deriving DecidableEq, Repr

/-- The kinds of a capture record (R90). -/
inductive RecordKind where
  | rise
  | fall
  | hold
  | live
  deriving DecidableEq, Repr

/-- A capture record (R90). -/
structure CaptureRecord where
  channel : Fin 48
  kind : RecordKind
  offset : Int
  deriving DecidableEq, Repr

/-- Levels and held set of a row: an initial state (R89) or a baseline (R90). -/
structure RowLevels where
  levels : Bitmap
  held : Bitmap
  deriving DecidableEq, Repr

/-- The record of a slot that is not EMPTY (R66). S and E are `ref - pre` and `ref + post` (R45). -/
structure Capture where
  phase : Phase
  serial : Nat
  source : Source
  label : Nat
  ref : Int
  pre : Nat
  post : Nat
  effStart : Int
  effEnd : Int
  flags : Flags
  records : List CaptureRecord
  blocks : List Nat
  initial : Option RowLevels
  fetch : Option PendingFetch
  deriving DecidableEq, Repr

/-- The slot table's state (R66, R68, R70, R71) with the extraction queue (R84); an EMPTY slot is `none`. -/
structure SlotTable where
  slots : Vector (Option Capture) 8
  acceptance : List (Fin 8)
  nextSerial : Nat
  lastTick : Option Nat
  queue : List (Fin 8)
  deriving DecidableEq, Repr

/-- The slot table after reset (R81). -/
def SlotTable.reset : SlotTable where
  slots := Vector.replicate 8 none
  acceptance := []
  nextSerial := 1
  lastTick := none
  queue := []

/-! ## Engines and pool (R85, R100) -/

/-- What the ring gives of one row (R40, R42): a damaged row is given with its tick alone. -/
structure ReadRow where
  tick : Nat
  content : Option (RowLevels × Bool)
  deriving DecidableEq, Repr

/-- The ring's fixed answer to a read (R40): the oldest available tick and the rows of the range. -/
structure ReadAnswer where
  oldest : Nat
  rows : List ReadRow
  deriving DecidableEq, Repr

/-- A read an engine has asked the ring for (R40, R87), with the answer once the ring has fixed it. -/
structure ReadRequest where
  slot : Fin 8
  serial : Nat
  start : Int
  stop : Int
  answer : Option ReadAnswer
  deriving DecidableEq, Repr

/-- What a READING engine holds (R86): its slot's R, S, E′ and flags as they stood when it took the slot. -/
structure Reading where
  slot : Fin 8
  serial : Nat
  ref : Int
  start : Int
  stop : Int
  flags : Flags
  deriving DecidableEq, Repr

/-- A row whose records wait for pool blocks (R93, R94). -/
structure Placing where
  tick : Nat
  content : RowLevels
  records : List CaptureRecord
  deriving DecidableEq, Repr

/-- An engine's working values (R85), the baseline (R90), the rows of its read it has not dealt with, and the row it is placing. -/
structure Working where
  slot : Fin 8
  serial : Nat
  ref : Int
  effStart : Int
  effEnd : Int
  flags : Flags
  initial : Option RowLevels
  records : List CaptureRecord
  blocks : List Nat
  baseline : Option RowLevels
  rows : List ReadRow
  placing : Option Placing
  deriving DecidableEq, Repr

/-- The states of an engine (R85). The values of an ENDING engine are the end it has handed on (R95). -/
inductive EngineState where
  | idle
  | reading (r : Reading)
  | working (w : Working)
  | ending (w : Working)
  deriving DecidableEq, Repr

/-! ## Readout units (R104) -/

/-- The endings of a delivery (R115). -/
inductive EndStatus where
  | complete
  | cut
  | aborted
  deriving DecidableEq, Repr

/-- An entry of a delivery queue (R104). -/
inductive QueueEntry where
  | delivery (slot : Fin 8) (serial fromPart : Nat)
  | cutEnding (slot : Fin 8) (serial : Nat)
  | abortedEnding (slot : Fin 8) (serial : Nat)
  deriving DecidableEq, Repr

/-- The next frame of the current delivery after its head (R104). -/
inductive NextFrame where
  | part (k : Nat)
  | ending (status : EndStatus)
  deriving DecidableEq, Repr

/-- The current delivery (R104) and the number of parts it has sent (R115). -/
structure Delivery where
  slot : Fin 8
  serial : Nat
  fromPart : Nat
  next : NextFrame
  sent : Nat
  deriving DecidableEq, Repr

/-- A readout unit's state (R104). -/
structure Readout where
  queue : List QueueEntry
  reserved : List (Fin 8 × Nat)
  current : Option Delivery
  deriving DecidableEq, Repr

/-- A readout unit after reset (R104). -/
def Readout.reset : Readout := { queue := [], reserved := [], current := none }

/-! ## Journal (R125, R127, R134) -/

/-- The kinds of a journal entry with their fields (R127). -/
inductive EntryKind where
  | rise (channel : Fin 48)
  | fall (channel : Fin 48)
  | hold (channel : Fin 48) (reason : HoldReason)
  | live (channel : Fin 48) (level ret : Bool)
  | supplyLost (group : Fin 6)
  | supplyBack (group : Fin 6)
  | runStart
  | runStop (reason : StopReason)
  | trigger (slot : Fin 8) (serial : Nat) (source : Source)
  | triggerRefused (source : Source) (slot : Option (Fin 8))
  | loss (count firstLost lastLost : Nat)
  deriving DecidableEq, Repr

/-- A journal entry (R127). -/
structure Entry where
  seq : Nat
  kind : EntryKind
  tick : Nat
  test : Bool
  deriving DecidableEq, Repr

/-- A subscriber record (R134); the frame in flight is its first seq and its number of entries. -/
structure Subscriber where
  acked : Nat
  cursor : Nat
  inFlight : Option (Nat × Nat)
  deriving DecidableEq, Repr

/-- The journal's state (R125). -/
structure Journal where
  entries : List Entry
  nextSeq : Nat
  lossCount : Nat
  firstLost : Option Nat
  lastLost : Option Nat
  subs : PerLink (Option Subscriber)
  lastTick : Option Nat
  deriving DecidableEq, Repr

/-- The journal after reset (R125). -/
def Journal.reset : Journal where
  entries := []
  nextSeq := 1
  lossCount := 0
  firstLost := none
  lastLost := none
  subs := { a := none, b := none }
  lastTick := none

/-! ## Fault log (R149) -/

/-- The kinds of a fault with their detail (R149). -/
inductive FaultKind where
  | rowCheck (slot : Fin 8) (serial : Nat)
  | supplyLost (group : Fin 6)
  | poolExhausted (slot : Fin 8) (serial : Nat)
  | autoMissed (channel : Fin 48)
  deriving DecidableEq, Repr

/-- A fault as it is handed to the fault log (R149). -/
structure FaultReport where
  kind : FaultKind
  tick : Nat
  deriving DecidableEq, Repr

/-- A fault record (R149). -/
structure FaultRecord where
  seq : Nat
  report : FaultReport
  deriving DecidableEq, Repr

/-- The fault log's state (R149). -/
structure FaultLog where
  records : List FaultRecord
  lost : Nat
  nextSeq : Nat
  deriving DecidableEq, Repr

/-- The fault log after reset (R149). -/
def FaultLog.reset : FaultLog := { records := [], lost := 0, nextSeq := 1 }

/-! ## Messages (spec/11) -/

/-- A host command with the fields of its body as they stand on the line (R181). -/
inductive Command where
  | hello
  | bye
  | ping
  | get (item : BitVec 16)
  | set (item : BitVec 16) (value : List Byte)
  | deviceReset (keepConfig : Byte)
  | start
  | stop
  | snapshot
  | trigger (slot kind : Byte) (tick : BitVec 40) (pre post label : BitVec 16)
  | abort (slot force : Byte)
  | slotStatus (slot : Byte)
  | fetch (slot claim fromPart : Byte)
  | release (slot : Byte) (serial : BitVec 16)
  | journalSubscribe (position : Byte)
  | journalAck (upTo : BitVec 32)
  | journalRewind
  | journalUnsubscribe
  | test (channels : Bitmap) (delay width gap : BitVec 16) (count slot : Byte) (trigDelay label : BitVec 16)
  | testCancel
  | faultsRead
  | faultsClear (upTo : BitVec 16)
  deriving DecidableEq, Repr

/-- The report of one slot in a SLOT-STATUS reply (R80): the slot, its capture as it stands, with S′, E′, flags and the two numbers
taken from the engine while it works on the slot, and its acceptance place. -/
structure SlotReport where
  slot : Fin 8
  capture : Option Capture
  place : Nat
  records : Nat
  blocks : Nat
  deriving DecidableEq, Repr

/-- A SNAPSHOT's values (R25). -/
structure SnapshotValues where
  tick : Nat
  levels : Bitmap
  raws : Bitmap
  chatter : Bitmap
  supply : Bitmap
  disabled : Bitmap
  deriving DecidableEq, Repr

/-- What a REPLY carries (R182): a refusal, or the fields of the command's own rule. -/
inductive ReplyBody where
  | refused (code : Result)
  | hello (link : Link) (bootEpoch session : Nat) (label : Vector Byte 8)
  | session (number : Nat)
  | item (id : BitVec 16) (value : List Byte)
  | deviceReset (bootEpoch : Nat)
  | start (tick : Nat)
  | stop (tick : Option Nat)
  | snapshot (values : Option SnapshotValues)
  | trigger (slot : Fin 8) (serial : Nat) (ref start stop : Int)
  | abort (slot : Fin 8) (serial : Nat) (was : Phase)
  | slotStatus (newest : Option Nat) (nextSerial : Nat) (queue : List (Fin 8)) (engine0 engine1 : Option (Fin 8 × Nat))
      (reports : List SlotReport)
  | fetchPending (slot : Fin 8) (serial : Nat) (phase : Phase)
  | fetchQueued (slot : Fin 8) (serial : Nat) (phase : Phase) (records parts ahead : Nat)
  | release (slot : Fin 8) (serial blocks : Nat)
  | subscribe (acked cursor oldest newest held loss : Nat)
  | ack (acked removed oldest : Nat)
  | rewind (cursor : Nat)
  | unsubscribe (removed : Nat)
  | test (first last : Nat) (trigger : Option (Fin 8 × Nat × Int × Int × Int))
  | testCancel (was : Injector)
  | faultsRead (records : List FaultRecord) (lost nextSeq : Nat)
  | faultsClear (removed left lost : Nat)
  deriving DecidableEq, Repr

/-- What a link does when a REPLY has been sent (R175): nothing, end the session of this number for its BYE, take this rate into use,
or let the pending DEVICE-RESET be carried out. -/
inductive AfterReply where
  | nothing
  | byeEnd (session : Nat)
  | takeRate (r : Rate)
  | carryOutReset
  deriving DecidableEq, Repr

/-- A REPLY (R168): the command's SEQ and KIND and the answer. -/
structure Reply where
  seq : Byte
  kind : Byte
  body : ReplyBody
  after : AfterReply
  deriving DecidableEq, Repr

/-- Why a session ended (Table 11-7). -/
inductive SessionEndReason where
  | bye
  | timeout
  | lineBreak
  | rehello
  | reset
  deriving DecidableEq, Repr

/-- The pending ALERT notice's fields (R60). -/
structure AlertNotice where
  count : Nat
  channel : Fin 48
  tick : Nat
  deriving DecidableEq, Repr

/-- A notice-pending set (R174). -/
structure Notices where
  slotReady : Option SlotSet
  alert : Option AlertNotice
  fault : Bool
  rxError : Bool
  overrun : Bool
  deriving DecidableEq, Repr

/-- No notice pending. -/
def Notices.empty : Notices := { slotReady := none, alert := none, fault := false, rxError := false, overrun := false }

/-- A CAPTURE-HEAD (R114). -/
structure Head where
  slot : Fin 8
  capture : Capture
  partCount : Nat
  fromPart : Nat
  bootEpoch : Nat
  label : Vector Byte 8
  deriving DecidableEq, Repr

/-- What an outgoing frame carries (R182, R183). -/
inductive FrameBody where
  | reply (r : Reply)
  | notice (n : Notices)
  | sessionEnd (reason : SessionEndReason) (number : Nat)
  | captureHead (h : Head)
  | capturePart (slot : Fin 8) (serial part : Nat) (records : List CaptureRecord)
  | captureEnd (slot : Fin 8) (serial : Nat) (status : EndStatus) (sent : Nat)
  | journalData (first : Nat) (entries : List Entry)
  deriving DecidableEq, Repr

/-- A frame on the line: its SEQ, what it carries, the bytes of R178, and the rate it is sent at (R175). -/
structure Sending where
  seq : Nat
  body : FrameBody
  bytes : List Byte
  rate : Rate
  deriving DecidableEq, Repr

/-! ## Links (R164) -/

/-- The receiver (R164, R165): HUNT; the three awaited bytes of HEADER; BODY; CHECK with the first CRC byte once taken. -/
inductive Receiver where
  | hunt
  | awaitLen
  | awaitSeq (len : Byte)
  | awaitKind (len seq : Byte)
  | body (len seq kind : Byte) (bytes : List Byte)
  | check (len seq kind : Byte) (bytes : List Byte) (first : Option Byte)
  deriving DecidableEq, Repr

/-- A complete frame waiting to be judged (R166). -/
structure RawFrame where
  len : Byte
  seq : Byte
  kind : Byte
  bytes : List Byte
  crcHigh : Byte
  crcLow : Byte
  deriving DecidableEq, Repr

/-- How a good frame reads: KIND not a host-to-device kind, body length not the kind's, or a command (R168 cases 6 to 8). -/
inductive FrameReading where
  | unknownKind
  | wrongLength
  | command (c : Command)
  deriving DecidableEq, Repr

/-- A good frame handed to the command handler (R168). -/
structure GoodFrame where
  seq : Byte
  kind : Byte
  reading : FrameReading
  deriving DecidableEq, Repr

/-- The command the handler has passed to its owning block and awaits the answer of (R168 case 8). -/
structure InHand where
  seq : Byte
  command : Command
  deriving DecidableEq, Repr

/-- What the receiver has seen of the present stretch of low line (R167). -/
inductive Stretch where
  | high
  | counted
  | inBreak
  deriving DecidableEq, Repr

/-- The session-end counts (R177). -/
structure EndCounts where
  bye : Nat
  timeout : Nat
  lineBreak : Nat
  rehello : Nat
  reset : Nat
  deriving DecidableEq, Repr

/-- The counts of a link (R177). -/
structure LinkCounts where
  good : Nat
  crc : Nat
  length : Nat
  gap : Nat
  framing : Nat
  breaks : Nat
  overruns : Nat
  replays : Nat
  ends : EndCounts
  deriving DecidableEq, Repr

/-- Every count at 0. -/
def LinkCounts.zero : LinkCounts where
  good := 0
  crc := 0
  length := 0
  gap := 0
  framing := 0
  breaks := 0
  overruns := 0
  replays := 0
  ends := { bye := 0, timeout := 0, lineBreak := 0, rehello := 0, reset := 0 }

/-- The transmitter (R175): no frame on the line; asking the journal for a frame; told by the journal that it has none; sending. -/
inductive Transmitter where
  | idle
  | asking
  | declined
  | sending (x : Sending)
  deriving DecidableEq, Repr

/-- A link's state (R164), with its handler (R168) and its transmitter (R175). -/
structure LinkState where
  receiver : Receiver
  stretch : Stretch
  complete : List RawFrame
  waiting : List GoodFrame
  inHand : Option InHand
  session : Option Nat
  byeMark : Bool
  lastSession : Nat
  sinceGood : Nat
  replies : List Reply
  cache : Option Reply
  pendingEnd : Option (SessionEndReason × Nat)
  notices : Notices
  outSeq : Nat
  rate : Rate
  rateDue : Option Rate
  counts : LinkCounts
  tx : Transmitter
  deriving DecidableEq, Repr

/-- A link after a hard reset (R164). -/
def LinkState.reset : LinkState where
  receiver := .hunt
  stretch := .high
  complete := []
  waiting := []
  inHand := none
  session := none
  byeMark := false
  lastSession := 0
  sinceGood := 0
  replies := []
  cache := none
  pendingEnd := none
  notices := Notices.empty
  outSeq := 0
  rate := .r921600
  rateDue := none
  counts := LinkCounts.zero
  tx := .idle

/-! ## Device control (R160, R162) -/

/-- What a pending DEVICE-RESET waits for (R162): the REPLY, or the SESSION-END of the session of this number, to be transmitted; or
nothing any more. -/
inductive ResetWait where
  | reply
  | sessionEnd (number : Nat)
  | due
  deriving DecidableEq, Repr

/-- The reset condition (R160). -/
inductive ResetCondition where
  | normal
  | pending (link : Link) (keepConfig : Bool) (wait : ResetWait)
  deriving DecidableEq, Repr

/-! ## Hand-offs on their way -/

/-- What the timebase and the conditioner hand to a taker, in order (R28). -/
inductive TimeMessage where
  | sample (c : Conditioned)
  | runStart (tick : Nat)
  | stop (reason : StopReason) (lastTick : Nat)
  deriving DecidableEq, Repr

/-- A TRIGGER or TRIGGER_REFUSED entry on its way to the journal (R130). -/
structure TriggerEntry where
  kind : EntryKind
  test : Bool
  deriving DecidableEq, Repr

/-- A block request: the slot and serial it is made for (R94). -/
structure BlockRequest where
  slot : Fin 8
  serial : Nat
  deriving DecidableEq, Repr

/-- The pool's answer to a block request: a granted block, or a refusal (R101). -/
structure BlockAnswer where
  slot : Fin 8
  serial : Nat
  block : Option Nat
  deriving DecidableEq, Repr

/-- What the slot table hands a readout unit (R77, R109, R117, R121). -/
inductive ReadoutMessage where
  | ready (slot : Fin 8) (serial : Nat) (source : Source) (applied : Option PendingFetch)
  | readyAgain (slot : Fin 8)
  | abort (slot : Fin 8) (serial : Nat)
  | release (slot : Fin 8) (serial : Nat)
  deriving DecidableEq, Repr

/-- What a link hands the journal (R136, R140). -/
inductive JournalMessage where
  | frameRequest
  | completion
  | sessionEnd
  deriving DecidableEq, Repr

/-- Every hand-off that one block has made and the other has not taken. Lists are first in, first out. -/
structure Wires where
  ringIn : List Conditioned
  journalIn : List TimeMessage
  trigIn : List TimeMessage
  slotIn : List TimeMessage
  injectorStop : Bool
  sampleFaults : List (List FaultReport)
  engineFaults : PerEngine (List FaultReport)
  triggerFaults : List FaultReport
  lineOffers : List Offer
  lineAnswers : List (Offer × Answer)
  triggerEntries : List TriggerEntry
  testEntries : List TriggerEntry
  reads : PerEngine (List ReadRequest)
  blockRequests : PerEngine (List BlockRequest)
  blockAnswers : PerEngine (List BlockAnswer)
  drops : PerEngine (List (Fin 8 × Nat))
  tableReturns : List (List Nat)
  engineReturns : PerEngine (List (List Nat))
  readoutIn : PerLink (List ReadoutMessage)
  tableEnds : PerLink Nat
  readoutEnds : PerLink Nat
  journalLinkIn : PerLink (List JournalMessage)
  deriving DecidableEq, Repr

/-- Nothing on its way. -/
def Wires.empty : Wires where
  ringIn := []
  journalIn := []
  trigIn := []
  slotIn := []
  injectorStop := false
  sampleFaults := []
  engineFaults := { x0 := [], x1 := [] }
  triggerFaults := []
  lineOffers := []
  lineAnswers := []
  triggerEntries := []
  testEntries := []
  reads := { x0 := [], x1 := [] }
  blockRequests := { x0 := [], x1 := [] }
  blockAnswers := { x0 := [], x1 := [] }
  drops := { x0 := [], x1 := [] }
  tableReturns := []
  engineReturns := { x0 := [], x1 := [] }
  readoutIn := { a := [], b := [] }
  tableEnds := { a := 0, b := 0 }
  readoutEnds := { a := 0, b := 0 }
  journalLinkIn := { a := [], b := [] }

/-! ## The part -/

/-- The E48, with the queue of commands that wait. -/
structure State where
  items : Items
  time : Timebase
  cond : Conditioner
  injector : Injector
  ring : List Row
  trig : TriggerUnit
  table : SlotTable
  engines : PerEngine EngineState
  pool : List Nat
  readouts : PerLink Readout
  journal : Journal
  faults : FaultLog
  links : PerLink LinkState
  device : ResetCondition
  resetPin : Bool
  wires : Wires
  pending : List Instr
  deriving DecidableEq, Repr

/-- The part right after a hard reset (R163 and each block's own rule), with no command waiting. -/
def State.reset : State where
  items := Items.default
  time := Timebase.reset
  cond := Conditioner.reset Items.default
  injector := .idle
  ring := []
  trig := TriggerUnit.reset
  table := SlotTable.reset
  engines := { x0 := .idle, x1 := .idle }
  pool := List.range 128
  readouts := { a := Readout.reset, b := Readout.reset }
  journal := Journal.reset
  faults := FaultLog.reset
  links := { a := LinkState.reset, b := LinkState.reset }
  device := .normal
  resetPin := false
  wires := Wires.empty
  pending := []

/-- Reasons for which the machine would stop. The E48 has none: its faults are records of its own fault log (R149), and nothing it is
given ends a run. No meaning raises one, so there is nothing safe or unsafe to say of a constructor. -/
inductive Fault where
  deriving DecidableEq, Repr

/-- Reasons for which a happening would have no meaning. -/
inductive Refusal where
  /-- Raised only by an arm of `exec` for a row of the table without a meaning (safe: nothing can be proved of its effect). Every row
  has its meaning, so no arm raises it. -/
  | notModelled (mnemonic : String)
  deriving DecidableEq, Repr

end Sys2Proof.Machine
end

