-- ==== Sys2Proof/Machine/Ops.lean ====
section
/-! DEFINITION. The named operations on State that every block uses: one update per block, reading a link or a slot, and the clock that
runs while no command waits. -/

namespace Sys2Proof.Machine

/-! ## Updates of one block -/

/-- Replace one link's state. -/
def State.modLink (s : State) (l : Link) (f : LinkState → LinkState) : State :=
  { s with links := s.links.set l (f (s.links.get l)) }

/-- Replace one readout unit's state. -/
def State.modReadout (s : State) (l : Link) (f : Readout → Readout) : State :=
  { s with readouts := s.readouts.set l (f (s.readouts.get l)) }

/-- Replace one engine's state. -/
def State.setEngine (s : State) (e : Engine) (x : EngineState) : State :=
  { s with engines := s.engines.set e x }

/-- Replace the hand-offs on their way. -/
def State.modWires (s : State) (f : Wires → Wires) : State := { s with wires := f s.wires }

/-- Replace the slot table's state. -/
def State.modTable (s : State) (f : SlotTable → SlotTable) : State := { s with table := f s.table }

/-- Replace the trigger unit's state. -/
def State.modTrig (s : State) (f : TriggerUnit → TriggerUnit) : State := { s with trig := f s.trig }

/-- Replace the journal's state. -/
def State.modJournal (s : State) (f : Journal → Journal) : State := { s with journal := f s.journal }

/-- Replace the timebase's state. -/
def State.modTime (s : State) (f : Timebase → Timebase) : State := { s with time := f s.time }

/-- Replace the conditioner's state. -/
def State.setCond (s : State) (c : Conditioner) : State := { s with cond := c }

/-- Replace the injector's state. -/
def State.setInjector (s : State) (i : Injector) : State := { s with injector := i }

/-- Replace the ring's rows. -/
def State.setRing (s : State) (r : List Row) : State := { s with ring := r }

/-- Replace the pool's free list. -/
def State.setPool (s : State) (p : List Nat) : State := { s with pool := p }

/-- Replace the fault log. -/
def State.setFaults (s : State) (f : FaultLog) : State := { s with faults := f }

/-- Replace the configuration items. -/
def State.setItems (s : State) (i : Items) : State := { s with items := i }

/-- Replace the reset condition. -/
def State.setDevice (s : State) (d : ResetCondition) : State := { s with device := d }

/-- The queue is the sender's: no block reads or writes it. -/
def State.setPending (s : State) (q : List Instr) : State := { s with pending := q }

/-! ## Reading -/

/-- Whether a link's session is OPEN (R164). -/
def State.sessionOpen (s : State) (l : Link) : Bool := (s.links.get l).session.isSome

/-- The capture a slot holds, or none when it is EMPTY (R66). -/
def State.slot (s : State) (i : Fin 8) : Option Capture := s.table.slots[i]

/-- Whether device control holds a DEVICE-RESET pending (R160). -/
def State.resetPending (s : State) : Bool :=
  match s.device with
  | .normal => false
  | .pending _ _ _ => true

/-- The stored rate item of a link (R157). -/
def Items.rateOf (i : Items) : Link → Rate
  | .A => i.rateA
  | .B => i.rateB

/-- The items with one link's rate item replaced. -/
def Items.setRate (i : Items) (l : Link) (r : Rate) : Items :=
  match l with
  | .A => { i with rateA := r }
  | .B => { i with rateB := r }

/-! ## Notices -/

/-- Set a kind in a link's notice-pending set; only while its session is OPEN (R174). -/
def State.notify (s : State) (l : Link) (f : Notices → Notices) : State :=
  if s.sessionOpen l then s.modLink l fun k => { k with notices := f k.notices } else s

/-- Set a kind on both links, Link A first. -/
def State.notifyBoth (s : State) (f : Notices → Notices) : State := (s.notify .A f).notify .B f

/-- Add a slot to a SLOT_READY notice (R111). -/
def Notices.addSlot (n : Notices) (i : Fin 8) : Notices :=
  { n with slotReady := some (n.slotReady.getD 0 ||| (1#8 <<< i.val)) }

/-- Add an alert transition to an ALERT notice (R60). -/
def Notices.addAlert (n : Notices) (c : Fin 48) (tick : Nat) : Notices :=
  { n with alert := some { count := min 65535 ((n.alert.map (·.count)).getD 0 + 1), channel := c, tick := tick } }

/-- Whether a notice-pending set holds no kind (R175). -/
def Notices.isEmpty (n : Notices) : Bool :=
  n.slotReady.isNone && n.alert.isNone && !n.fault && !n.rxError && !n.overrun

/-! ## Hand-offs -/

/-- Hand the pool blocks back from the slot table (R102); no blocks, no hand-off. -/
def State.returnFromTable (s : State) (blocks : List Nat) : State :=
  if blocks.isEmpty then s else s.modWires fun w => { w with tableReturns := w.tableReturns ++ [blocks] }

/-- Hand the pool blocks back from an engine (R102); no blocks, no hand-off. -/
def State.returnFromEngine (s : State) (e : Engine) (blocks : List Nat) : State :=
  if blocks.isEmpty then s
  else s.modWires fun w => { w with engineReturns := w.engineReturns.set e (w.engineReturns.get e ++ [blocks]) }

/-- The slot table hands both readout units a message (R77, R109, R117). -/
def State.tellReadouts (s : State) (m : ReadoutMessage) : State :=
  s.modWires fun w => { w with readoutIn := { a := w.readoutIn.a ++ [m], b := w.readoutIn.b ++ [m] } }

/-- An engine hands the fault log faults, in order (R150). -/
def State.engineFault (s : State) (e : Engine) (fs : List FaultReport) : State :=
  s.modWires fun w => { w with engineFaults := w.engineFaults.set e (w.engineFaults.get e ++ fs) }

/-! ## The reset pin and the clock -/

/-- A happening of the part: while the reset pin is asserted the part does nothing (R163). -/
def unlessHeld (f : State → State) (s : State) : Host.Outcome State Fault Refusal :=
  .next (if s.resetPin then s else f s)

/-- DESIGN CHOICE (log 2). One ms passes: each OPEN session's time since the last good frame goes on (R172). This is what a step on an
empty queue does. -/
def millisecond (s : State) : State :=
  if s.resetPin then s
  else
    let tickLink (k : LinkState) : LinkState := if k.session.isSome then { k with sinceGood := k.sinceGood + 1 } else k
    (s.modLink .A tickLink).modLink .B tickLink

/-! ## The sense of time of three blocks -/

/-- The slot table's newest tick (R71). -/
def State.tableNewest (s : State) : Option Nat :=
  match s.table.lastTick, s.time.runStart with
  | some t, some r => if t ≥ r then some t else none
  | _, _ => none

/-- The slot table's current tick (R71). Before any START nothing asks for it (R47 check 1); it is then 0. -/
def State.tableCurrent (s : State) : Int :=
  match s.tableNewest with
  | some t => (t : Int)
  | none => (s.time.runStart.getD 1 : Int) - 1

/-- What check 5 of R47 compares E with: the oldest available tick, or the run start tick when the slot table's view is empty. -/
def State.tableFloor (s : State) : Int :=
  match s.tableNewest with
  | some t => max (s.time.runStart.getD 1 : Int) ((t : Int) - 4095)
  | none => (s.time.runStart.getD 1 : Int)

/-- The journal's current tick (R130). -/
def State.journalNow (s : State) : Nat :=
  match s.time.runStart with
  | none => 0
  | some r =>
    match s.journal.lastTick with
    | some t => if t ≥ r then t else r - 1
    | none => r - 1

/-- The ring's newest tick (R39). -/
def State.ringNewest (s : State) : Option Nat := s.ring.getLast?.map (·.tick)

/-- The ring's oldest available tick (R39). -/
def State.ringOldest (s : State) : Option Nat := s.ring.head?.map (·.tick)

end Sys2Proof.Machine
end

