-- ==== Sys2Proof/Machine/Ring.lean ====
section
/-! DEFINITION. The history ring: appending a row (R36, R37), damage (R41), and the fixed answer to a read (R40, R42). -/

namespace Sys2Proof.Machine

/-- The check code computed again from a row's stored fields (R41, R42). -/
def Row.code (r : Row) : Nat := Config.rowCheckCode r.tick r.levels r.held r.test

/-- The check code stored in a row (R36). -/
def Row.check (r : Row) : Nat := r.code ^^^ r.syndrome

/-- A row is damaged when the code computed again differs from the stored one (R41), which is when the two differ in some bit
(`Row.damaged_iff` in Laws/Ring.lean). -/
def Row.damaged (r : Row) : Bool := r.syndrome != 0

/-- The row made from a conditioned sample (R36), intact, with its check code. -/
def Row.ofSample (c : Conditioned) : Row where
  tick := c.tick
  levels := c.levels
  held := c.held
  test := c.test
  syndrome := 0

/-- The rows after an append: the oldest is removed first when 4096 are held (R37). -/
def appendRow (rows : List Row) (r : Row) : List Row :=
  (if rows.length < Config.ringRows then rows else rows.drop 1) ++ [r]

/-- What the ring gives of a row in an answer, for which it computes the row's code again: a damaged row with its tick alone (R41, R42). -/
def Row.given (r : Row) : ReadRow where
  tick := r.tick
  content := if r.damaged then none else some ({ levels := r.levels, held := r.held }, r.test)

/-- Whether the ring holds a row at or after this end tick (R40). -/
def ringReaches (rows : List Row) (stop : Int) : Bool :=
  match rows.getLast? with
  | some r => decide (stop ≤ (r.tick : Int))
  | none => false

/-- The answer the ring fixes for a read of the ticks start to stop (R40). -/
def ringAnswer (rows : List Row) (start stop : Int) : ReadAnswer where
  oldest := (rows.head?.map (·.tick)).getD 0
  rows := (rows.filter fun r => decide (start ≤ (r.tick : Int)) && decide ((r.tick : Int) ≤ stop)).map Row.given

/-- A read the ring had to defer is taken at the append that brings its end tick (R40). -/
def ReadRequest.atAppend (q : ReadRequest) (before after : List Row) : ReadRequest :=
  match q.answer with
  | some _ => q
  | none =>
    if !ringReaches before q.stop && ringReaches after q.stop then { q with answer := some (ringAnswer after q.start q.stop) } else q

/-- The answer of a read when the ring takes it now: fixed already, or fixed now if the ring holds a row at or after the end (R40). -/
def ReadRequest.take (q : ReadRequest) (rows : List Row) : Option ReadAnswer :=
  match q.answer with
  | some a => some a
  | none => if ringReaches rows q.stop then some (ringAnswer rows q.start q.stop) else none

/-- The ring takes the next conditioned sample handed to it and appends its row (R37); reads that waited for the row are taken (R40). -/
def ringAppend (s : State) : State :=
  match s.wires.ringIn with
  | [] => s
  | c :: rest =>
    let rows := appendRow s.ring (Row.ofSample c)
    (s.setRing rows).modWires fun w =>
      { w with
        ringIn := rest
        reads := { x0 := w.reads.x0.map (·.atAppend s.ring rows), x1 := w.reads.x1.map (·.atAppend s.ring rows) } }

/-- DEDUCED (log 36). The ring takes every sample on its way to it, before the next arrives (R37). -/
def ringCatchUp (s : State) : State := s.wires.ringIn.foldl (fun t _ => ringAppend t) s

/-- The ring takes every read that it need not defer: its answer is fixed, and later happenings leave it (R40). -/
def ringTakeReads (s : State) : State :=
  let fix (q : ReadRequest) : ReadRequest := { q with answer := q.take s.ring }
  s.modWires fun w => { w with reads := { x0 := w.reads.x0.map fix, x1 := w.reads.x1.map fix } }

/-- DEDUCED (log 15). The ring takes a START (R38): the samples and the reads that were on their way to it come first (R28, R40), and then it
is emptied. -/
def ringTakeStart (s : State) : State := (ringTakeReads (ringCatchUp s)).setRing []

/-- A storage upset strikes a row (R41): an intact row's stored fields become what the upset leaves, and no longer match its check code. A
damaged row stays as it is, and what leaves every field matching is no upset (log 9). -/
def Row.strike (r : Row) (levels held : Bitmap) (test : Bool) (syndrome : Nat) : Row :=
  if r.damaged || syndrome == 0 then r else { r with levels := levels, held := held, test := test, syndrome := syndrome }

/-- The upset at the row of this tick (R41). -/
def damageRow (tick : Nat) (levels held : Bitmap) (test : Bool) (syndrome : Nat) (s : State) : State :=
  s.setRing (s.ring.map fun r => if r.tick = tick then r.strike levels held test syndrome else r)

/-! ## The rows of the table -/

/-- RING_APPEND (R37). -/
def execRingAppend : State → Host.Outcome State Fault Refusal := unlessHeld ringAppend

/-- ROW_DAMAGE (R41). The operands after the tick are what the upset leaves stored in the row (log 9). -/
def execRowDamage (tick : Nat) (levels held : Bitmap) (test : Bool) (syndrome : Nat) : State → Host.Outcome State Fault Refusal :=
  unlessHeld (damageRow tick levels held test syndrome)

end Sys2Proof.Machine
end

