-- ==== Sys2Proof/Machine/Conditioner.lean ====
section
/-! DEFINITION. Input conditioning and the making of a sample: the stages of R4 for one channel and one monitor, the test injector's part
of stage 2 (R145, R146), the conditioned sample (R20) and its hand-off (R21). The rows here are SAMPLE and the happenings that come about
inside it. -/

namespace Sys2Proof.Machine

/-! ## The test injector at stage 2 (R145, R146) -/

/-- The channels the injector covers at this sample and the level it drives, when it is INJECTING (R145). -/
def Injector.drive : Injector → Option (Bitmap × Bool)
  | .injecting run _ high _ => some (run.channels, high)
  | _ => none

/-- The injector after this sample's stage 2: the delay counted down (R145), or the position moved on (R146). -/
def Injector.advance : Injector → Injector
  | .idle => .idle
  | .delay run remaining => if remaining ≤ 1 then .injecting run 1 true run.width else .delay run (remaining - 1)
  | .injecting run pulse high remaining =>
    if remaining > 1 then .injecting run pulse high (remaining - 1)
    else if high then (if pulse < run.count then .injecting run pulse false run.gap else .idle)
    else .injecting run (pulse + 1) true run.width

/-- The level driven on one channel, when the injector covers it at this sample (R6). -/
def Injector.covers (i : Injector) (c : Fin 48) : Option Bool :=
  match i.drive with
  | some (channels, level) => if channels.getLsbD c then some level else none
  | none => none

/-! ## Stage 1: configuration pickup (R5) -/

/-- A channel is affected when its invert field, its profile number or a setting of the profile it uses has changed (R5). -/
def Channel.affected (ch : Channel) (r : ChannelRecord) (p : Profile) : Bool :=
  r.invert != ch.record.invert || r.profile != ch.record.profile || p != ch.profile

/-- Of the three changes that affect a channel, only the invert field's came about (R5; DEDUCED, log 14). -/
def Channel.onlyInverted (ch : Channel) (r : ChannelRecord) (p : Profile) : Bool :=
  r.invert != ch.record.invert && r.profile == ch.record.profile && p == ch.profile

/-- The record and profile are taken into use (R5). -/
def Channel.pickUp (ch : Channel) (r : ChannelRecord) (p : Profile) : Channel :=
  { ch with
    record := r
    profile := p
    debounce := if ch.affected r p then 0 else ch.debounce
    window := if ch.affected r p then none else ch.window
    prevRaw := if ch.onlyInverted r p then !ch.prevRaw else ch.prevRaw }

/-! ## Stage 2: raw values (R6) -/

/-- The raw value: the injected level as it is, or the pin with polarity applied (R6). -/
def rawValue (r : ChannelRecord) (pin : Bool) (injected : Option Bool) : Bool :=
  match injected with
  | some level => level
  | none => pin ^^ r.invert

/-! ## Stage 3: supply monitors (R14 to R16) -/

/-- One monitor at one sample, with the event it reports: `some true` for SUPPLY_LOST, `some false` for SUPPLY_BACK. -/
def Monitor.sample (m : Monitor) (monitored present : Bool) (lossTicks returnTicks : Nat) : Monitor × Option Bool :=
  if !monitored then (Monitor.reset, if m.lost then some false else none)
  else if m.lost then
    if !present then ({ m with present := 0 }, none)
    else if returnTicks ≤ m.present + 1 then (Monitor.reset, some false)
    else ({ m with present := m.present + 1 }, none)
  else if present then ({ m with absent := 0 }, none)
  else if lossTicks ≤ m.absent + 1 then ({ Monitor.reset with lost := true }, some true)
  else ({ m with absent := m.absent + 1 }, none)

/-! ## Stage 4: hold reasons (R11, R17, R18) -/

/-- Whether a channel is held. -/
def Holds.any (h : Holds) : Bool := h.chatter || h.supply || h.disabled

/-- CHATTER and the quiet countdown after stage 4 (R11). A countdown is present whenever CHATTER is held; were it absent, CHATTER would
be removed (log 32). -/
def Channel.quietStep (ch : Channel) (raw : Bool) : Bool × Option Nat :=
  if !ch.holds.chatter then (false, ch.quiet)
  else if ch.profile.chatterLimit = 0 then (false, none)
  else if raw != ch.prevRaw then (true, some ch.profile.chatterQuiet)
  else if ch.quiet.getD 0 ≤ 1 then (false, none)
  else (true, some (ch.quiet.getD 0 - 1))

/-- The hold reasons after stage 4: CHATTER by R11, SUPPLY while the group's monitor is LOST, DISABLED by the enabled field (R18). -/
def Channel.newHolds (ch : Channel) (raw lost : Bool) : Holds :=
  { chatter := (ch.quietStep raw).1, supply := lost, disabled := !ch.record.enabled }

/-- One HOLD for each reason stage 4 adds, in the order SUPPLY, DISABLED (R17). -/
def addedHolds (before after : Holds) : List ChangeKind :=
  (if after.supply && !before.supply then [.hold .supply] else [])
    ++ (if after.disabled && !before.disabled then [.hold .disabled] else [])

/-! ## Stage 5: level (R8 to R10, R17, R19) -/

/-- The chatter window aged at the start of live processing (R9). -/
def ageWindow : Option ChatterWindow → Option ChatterWindow
  | none => none
  | some w => if w.remaining ≤ 1 then none else some { w with remaining := w.remaining - 1 }

/-- The window after a field transition (R9); a profile with a chatter limit of 0 has none. -/
def countTransition (p : Profile) (w : Option ChatterWindow) : Option ChatterWindow :=
  if p.chatterLimit = 0 then none
  else
    match w with
    | none => some { remaining := p.chatterWindow, count := 1 }
    | some x => some { x with count := x.count + 1 }

/-- Whether the debounce count reaches the profile's at this sample's live processing (R8). -/
def Channel.debounceDone (ch : Channel) (raw : Bool) : Bool :=
  raw != ch.level && decide (ch.debounce + 1 = ch.profile.debounce)

/-- The RISE or FALL of a level that follows this raw value (R8). -/
def transitionKind (raw : Bool) : ChangeKind := if raw then .rise else .fall

/-- Whether a transition brings the window's count equal to the chatter limit (R10). -/
def chatterReached (p : Profile) (w : Option ChatterWindow) : Bool :=
  match w with
  | none => false
  | some x => decide (x.count = p.chatterLimit)

/-- Live processing (R8 to R10). -/
def Channel.live (ch : Channel) (raw : Bool) : Channel × List ChangeKind :=
  let aged := ageWindow ch.window
  if raw = ch.level then ({ ch with debounce := 0, window := aged }, [])
  else if ch.debounceDone raw then
    let counted := countTransition ch.profile aged
    if chatterReached ch.profile counted then
      ({ ch with
          level := raw
          debounce := 0
          window := none
          quiet := some ch.profile.chatterQuiet
          holds := { ch.holds with chatter := true } },
        [transitionKind raw, .hold .chatter])
    else ({ ch with level := raw, debounce := 0, window := counted }, [transitionKind raw])
  else ({ ch with debounce := ch.debounce + 1, window := aged }, [])

/-- Stages 4 and 5 for a channel whose record and profile are in use: the four cases of R4 stage 5. -/
def Channel.work (ch : Channel) (raw lost : Bool) : Channel × List ChangeKind :=
  let after := ch.newHolds raw lost
  if !ch.holds.any && !after.any then ch.live raw
  else if !ch.holds.any then ({ ch with holds := after, debounce := 0, window := none }, addedHolds ch.holds after)
  else if after.any then ({ ch with holds := after, quiet := (ch.quietStep raw).2 }, addedHolds ch.holds after)
  else
    ({ ch with holds := after, level := raw, debounce := 0, window := none, quiet := none }, [.live raw (raw != ch.level)])

/-- What the first sample of a run establishes in place of stages 3 to 5 (R23). -/
def Channel.establish (ch : Channel) (raw : Bool) : Channel :=
  { ch with level := raw, holds := { chatter := false, supply := false, disabled := !ch.record.enabled } }

/-! ## Stage 6: marks (R7) -/

/-- The injected mark, and this sample's raw value stored as the previous raw (R7). -/
def Channel.mark (ch : Channel) (raw covered : Bool) : Channel :=
  let settled := !ch.holds.any && ch.level == raw && ch.debounce == 0
  { ch with prevRaw := raw, injected := covered || (ch.injected && !settled) }

/-! ## One channel at one sample -/

/-- One channel through stages 1 to 6, with the changes it reports in order. -/
def Channel.sample (ch : Channel) (r : ChannelRecord) (p : Profile) (pin : Bool) (injected : Option Bool) (lost first : Bool) :
    Channel × List ChangeKind :=
  let used := ch.pickUp r p
  let raw := rawValue r pin injected
  let worked := if first then (used.establish raw, []) else used.work raw lost
  (worked.1.mark raw injected.isSome, worked.2)

/-! ## The sample -/

/-- Whether the timebase makes a sample when one falls due: RUNNING, and the last tick not yet used (R28, R32). -/
def State.samples (s : State) : Bool := s.time.running && decide (s.time.tick < Config.tickMax)

/-- The record CHANNEL[c] of the item store. -/
def State.recordOf (s : State) (c : Fin 48) : ChannelRecord := s.items.channels[c]

/-- The profile that CHANNEL[c] names. -/
def State.profileOf (s : State) (c : Fin 48) : Profile := s.items.profiles[(s.recordOf c).profile]

/-- Stage 3 for one group; the monitors do not read their sense inputs at the first sample of a run (R13, R23). -/
def State.monitorSample (s : State) (senses : GroupSet) (g : Fin 6) : Monitor × Option Bool :=
  let m := s.cond.monitors[g]
  if s.cond.firstDue then (m, none)
  else m.sample (s.items.supplyMonitor.getLsbD g) (senses.getLsbD g) s.items.supplyLossTicks s.items.supplyReturnTicks

/-- The supply group of a channel. -/
def groupOf (c : Fin 48) : Fin 6 := ⟨c.val / 8, by omega⟩

/-- Stages 1 to 6 for one channel of the part. -/
def State.channelSample (s : State) (pins : Bitmap) (senses : GroupSet) (c : Fin 48) : Channel × List ChangeKind :=
  s.cond.channels[c].sample (s.recordOf c) (s.profileOf c) (pins.getLsbD c) (s.injector.covers c)
    (s.monitorSample senses (groupOf c)).1.lost s.cond.firstDue

/-- The change list's form of a channel's changes (R20): the test flag of R7 and the fields of the record in use. -/
def changesOf (c : Fin 48) (r : ChannelRecord) (test : Bool) (kinds : List ChangeKind) : List Change :=
  kinds.map fun k => { channel := c, kind := k, test := test, journal := r.journal, alert := r.alert, auto := r.auto }

/-- The conditioner after the sample numbered `tick`. -/
def State.sampledCond (s : State) (pins : Bitmap) (senses : GroupSet) (tick : Nat) : Conditioner where
  channels := Vector.ofFn fun c => (s.channelSample pins senses c).1
  monitors := Vector.ofFn fun g => (s.monitorSample senses g).1
  firstDue := false
  lastTick := some tick

/-- The supply events of the sample, in ascending group number (R20). -/
def State.supplyEvents (s : State) (senses : GroupSet) : List SupplyEvent :=
  (List.finRange 6).filterMap fun g => (s.monitorSample senses g).2.map fun lost => { group := g, lost := lost }

/-- The change list of the sample, in ascending channel number (R20). -/
def State.changeList (s : State) (pins : Bitmap) (senses : GroupSet) : List Change :=
  (List.finRange 48).flatMap fun c =>
    changesOf c (s.recordOf c) (s.cond.channels[c].injected || (s.injector.covers c).isSome) (s.channelSample pins senses c).2

/-- The conditioned sample (R20). -/
def State.conditioned (s : State) (pins : Bitmap) (senses : GroupSet) (tick : Nat) : Conditioned where
  tick := tick
  levels := Bitmap.ofChannels fun c => (s.channelSample pins senses c).1.level
  held := Bitmap.ofChannels fun c => (s.channelSample pins senses c).1.holds.any
  test := s.injector.drive.isSome
  events := s.supplyEvents senses
  changes := s.changeList pins senses

/-- The SUPPLY_LOST faults of a conditioned sample (R21, R149). -/
def Conditioned.faults (c : Conditioned) : List FaultReport :=
  (c.events.filter (·.lost)).map fun e => { kind := .supplyLost e.group, tick := c.tick }

/-- The hand-off to each taker (R21). -/
def Wires.handSample (w : Wires) (c : Conditioned) : Wires :=
  { w with
    ringIn := w.ringIn ++ [c]
    journalIn := w.journalIn ++ [.sample c]
    trigIn := w.trigIn ++ [.sample c]
    slotIn := w.slotIn ++ [.sample c]
    sampleFaults := if c.faults.isEmpty then w.sampleFaults else w.sampleFaults ++ [c.faults] }

/-- Making a sample (R28): the tick counter advances, the conditioner works on the sample (R4), the injector moves on (R145), and the
conditioned sample is handed on (R21). The ring has taken the sample before by then (R37; log 36). No sample is made while recording is
STOPPED or when the last tick has been used. -/
def makeSample (pins : Bitmap) (senses : GroupSet) (s : State) : State :=
  if s.samples then
    let tick := s.time.tick + 1
    let c := s.conditioned pins senses tick
    ((((ringCatchUp s).modTime fun t => { t with tick := tick }).setCond (s.sampledCond pins senses tick)).setInjector
      s.injector.advance).modWires fun w => w.handSample c
  else s

/-! ## Happenings inside a sample -/

/-- Channel `c` completes its debounce at this sample (R8). -/
def State.debounceCompletes (s : State) (c : Fin 48) (pins : Bitmap) (senses : GroupSet) : Bool :=
  s.samples && (s.channelSample pins senses c).2.any fun k => k == .rise || k == .fall

/-- Channel `c` is in live processing at this sample (R4 stage 5). -/
def State.liveAt (s : State) (c : Fin 48) (pins : Bitmap) (senses : GroupSet) : Bool :=
  let used := s.cond.channels[c].pickUp (s.recordOf c) (s.profileOf c)
  let raw := rawValue (s.recordOf c) (pins.getLsbD c) (s.injector.covers c)
  !s.cond.firstDue && !used.holds.any && !(used.newHolds raw (s.monitorSample senses (groupOf c)).1.lost).any

/-- Channel `c`'s open chatter window runs out at this sample (R9). -/
def State.windowExpires (s : State) (c : Fin 48) (pins : Bitmap) (senses : GroupSet) : Bool :=
  s.samples && s.liveAt c pins senses
    && (((s.cond.channels[c].pickUp (s.recordOf c) (s.profileOf c)).window.map (·.remaining)) == some 1)

/-- Channel `c`'s quiet countdown reaches 0 at this sample (R11, third case). -/
def State.quietExpires (s : State) (c : Fin 48) (pins : Bitmap) : Bool :=
  let used := s.cond.channels[c].pickUp (s.recordOf c) (s.profileOf c)
  let raw := rawValue (s.recordOf c) (pins.getLsbD c) (s.injector.covers c)
  s.samples && !s.cond.firstDue && used.holds.chatter && used.profile.chatterLimit != 0 && raw == used.prevRaw && used.quiet == some 1

/-- Group `g` is monitored and reports SUPPLY_LOST (`lost`) or SUPPLY_BACK at this sample (R14, R15). -/
def State.supplyReports (s : State) (g : Fin 6) (senses : GroupSet) (lost : Bool) : Bool :=
  s.samples && s.items.supplyMonitor.getLsbD g && (s.monitorSample senses g).2 == some lost

/-- The start delay reaches 0 at this sample (R145). -/
def State.delayExpires (s : State) : Bool :=
  s.samples && (match s.injector with
    | .delay _ remaining => decide (remaining ≤ 1)
    | _ => false)

/-- The phase remaining reaches 0 at this sample (R146). -/
def State.phaseExpires (s : State) : Bool :=
  s.samples && (match s.injector with
    | .injecting _ _ _ remaining => decide (remaining ≤ 1)
    | _ => false)

/-- DEDUCED (log 6). A happening that comes about inside a sample: the sample at which it does. Where the sample would not bring it
about, it does not happen. -/
def sampleWhen (occurs : Bool) (pins : Bitmap) (senses : GroupSet) (s : State) : State :=
  if occurs then makeSample pins senses s else s

/-! ## The rows -/

/-- SAMPLE (R28, R4). -/
def execSample (pins : Bitmap) (senses : GroupSet) : State → Host.Outcome State Fault Refusal :=
  unlessHeld (makeSample pins senses)

/-- DEBOUNCE_COMPLETE (R8): the sample at which channel `c`'s level follows its raw value and a RISE or FALL is reported. -/
def execDebounceComplete (c : Fin 48) (pins : Bitmap) (senses : GroupSet) : State → Host.Outcome State Fault Refusal :=
  unlessHeld fun s => sampleWhen (s.debounceCompletes c pins senses) pins senses s

/-- CHATTER_WINDOW_EXPIRY (R9): the sample at which channel `c`'s open window runs out and closes. -/
def execChatterWindowExpiry (c : Fin 48) (pins : Bitmap) (senses : GroupSet) : State → Host.Outcome State Fault Refusal :=
  unlessHeld fun s => sampleWhen (s.windowExpires c pins senses) pins senses s

/-- QUIET_COUNTDOWN_EXPIRY (R11): the sample at which channel `c`'s quiet countdown reaches 0 and CHATTER is removed. -/
def execQuietCountdownExpiry (c : Fin 48) (pins : Bitmap) (senses : GroupSet) : State → Host.Outcome State Fault Refusal :=
  unlessHeld fun s => sampleWhen (s.quietExpires c pins) pins senses s

/-- SUPPLY_LOST (R14): the sample at which group `g` becomes LOST. -/
def execSupplyLost (g : Fin 6) (pins : Bitmap) (senses : GroupSet) : State → Host.Outcome State Fault Refusal :=
  unlessHeld fun s => sampleWhen (s.supplyReports g senses true) pins senses s

/-- SUPPLY_BACK (R15): the sample at which group `g` becomes OK again. -/
def execSupplyBack (g : Fin 6) (pins : Bitmap) (senses : GroupSet) : State → Host.Outcome State Fault Refusal :=
  unlessHeld fun s => sampleWhen (s.supplyReports g senses false) pins senses s

/-- TEST_DELAY_EXPIRY (R145): the sample at which the start delay reaches 0 and the injector enters INJECTING. -/
def execTestDelayExpiry (pins : Bitmap) (senses : GroupSet) : State → Host.Outcome State Fault Refusal :=
  unlessHeld fun s => sampleWhen s.delayExpires pins senses s

/-- TEST_PHASE_EXPIRY (R146): the injected sample at which the phase remaining reaches 0. -/
def execTestPhaseExpiry (pins : Bitmap) (senses : GroupSet) : State → Host.Outcome State Fault Refusal :=
  unlessHeld fun s => sampleWhen s.phaseExpires pins senses s

end Sys2Proof.Machine
end

