-- ==== Sys2Proof/Machine/Operands.lean ====
section
/-! DEFINITION. The encodings of spec/11 section 11.2 in both directions (byte order, two's complement, small sets, yes/no, slots), and
the six link rates. -/

namespace Sys2Proof.Machine

/-! ## Sent fields (R179) -/

/-- An unsigned number in `k` bytes, least significant byte first. -/
def leBytes : Nat → Nat → List Byte
  | 0, _ => []
  | k + 1, n => BitVec.ofNat 8 n :: leBytes k (n / 256)

/-- A signed number in `k` bytes of two's complement, least significant byte first. -/
def leSigned (k : Nat) (i : Int) : List Byte := leBytes k (i % ((256 ^ k : Nat) : Int)).toNat

/-- An optional tick: 0 and zeros, or 1 and the tick. -/
def optTick : Option Nat → List Byte
  | none => leBytes 6 0
  | some t => 1#8 :: leBytes 5 t

/-- yes/no. -/
def yesNo (b : Bool) : List Byte := [if b then 1#8 else 0#8]

/-- A channel bitmap. -/
def bitmapBytes (b : Bitmap) : List Byte := leBytes 6 b.toNat

/-! ## Received fields (R180) -/

/-- A u16 from its two bytes. -/
def u16 (b0 b1 : Byte) : BitVec 16 := b1 ++ b0

/-- A u32 from its four bytes. -/
def u32 (b0 b1 b2 b3 : Byte) : BitVec 32 := b3 ++ b2 ++ b1 ++ b0

/-- A tick from its five bytes. -/
def u40 (b0 b1 b2 b3 b4 : Byte) : BitVec 40 := b4 ++ b3 ++ b2 ++ b1 ++ b0

/-- A channel bitmap from its six bytes. -/
def u48 (b0 b1 b2 b3 b4 b5 : Byte) : Bitmap := b5 ++ b4 ++ b3 ++ b2 ++ b1 ++ b0

/-- Byte `k` of a field. -/
def byteOf {w : Nat} (x : BitVec w) (k : Nat) : Byte := x.extractLsb' (8 * k) 8

/-- A yes/no byte; none outside its encoding. -/
def readYesNo (b : Byte) : Option Bool :=
  if b = 0#8 then some false else if b = 1#8 then some true else none

/-- A slot number 0 … 7; none outside its range. -/
def readSlot (b : Byte) : Option (Fin 8) :=
  if h : b.toNat < 8 then some ⟨b.toNat, h⟩ else none

/-- A pre or post of a TRIGGER: `$FFFF` means DEFAULT (spec/11 section 11.3). -/
def readWindowSide (x : BitVec 16) : Option Nat := if x = 0xFFFF#16 then none else some x.toNat

/-! ## Link rates (R157) -/

/-- The rate in baud. -/
def Rate.baud : Rate → Nat
  | .r115200 => 115200
  | .r230400 => 230400
  | .r460800 => 460800
  | .r921600 => 921600
  | .r1843200 => 1843200
  | .r3000000 => 3000000

/-- The link rate of a number of baud; none for any other number. -/
def Rate.ofBaud (n : Nat) : Option Rate :=
  [Rate.r115200, .r230400, .r460800, .r921600, .r1843200, .r3000000].find? fun r => r.baud == n

end Sys2Proof.Machine
end

