-- ==== Sys2Proof/Machine/Commands.lean ====
section
/-! DEFINITION. The host-to-device messages: KIND and body of each command (R181, Table 11-1), written and read. -/

namespace Sys2Proof.Machine

/-- The KIND of a command (Table 11-1). -/
def Command.kind : Command → Byte
  | .hello => 0x01#8
  | .bye => 0x02#8
  | .ping => 0x03#8
  | .get _ => 0x10#8
  | .set _ _ => 0x11#8
  | .deviceReset _ => 0x12#8
  | .start => 0x20#8
  | .stop => 0x21#8
  | .snapshot => 0x22#8
  | .trigger _ _ _ _ _ _ => 0x30#8
  | .abort _ _ => 0x31#8
  | .slotStatus _ => 0x32#8
  | .fetch _ _ _ => 0x40#8
  | .release _ _ => 0x41#8
  | .journalSubscribe _ => 0x50#8
  | .journalAck _ => 0x51#8
  | .journalRewind => 0x52#8
  | .journalUnsubscribe => 0x53#8
  | .test _ _ _ _ _ _ _ _ => 0x60#8
  | .testCancel => 0x61#8
  | .faultsRead => 0x70#8
  | .faultsClear _ => 0x71#8

/-- The bytes of a 16-bit field. -/
def bytes16 (x : BitVec 16) : List Byte := [byteOf x 0, byteOf x 1]

/-- The bytes of a 32-bit field. -/
def bytes32 (x : BitVec 32) : List Byte := [byteOf x 0, byteOf x 1, byteOf x 2, byteOf x 3]

/-- The body of a command (R181). -/
def Command.body : Command → List Byte
  | .hello => []
  | .bye => []
  | .ping => []
  | .get item => bytes16 item
  | .set item value => bytes16 item ++ value
  | .deviceReset keep => [keep]
  | .start => []
  | .stop => []
  | .snapshot => []
  | .trigger slot kind tick pre post label =>
    [slot, kind, byteOf tick 0, byteOf tick 1, byteOf tick 2, byteOf tick 3, byteOf tick 4] ++ bytes16 pre ++ bytes16 post
      ++ bytes16 label
  | .abort slot force => [slot, force]
  | .slotStatus slot => [slot]
  | .fetch slot claim fromPart => [slot, claim, fromPart]
  | .release slot serial => slot :: bytes16 serial
  | .journalSubscribe position => [position]
  | .journalAck upTo => bytes32 upTo
  | .journalRewind => []
  | .journalUnsubscribe => []
  | .test channels delay width gap count slot trigDelay label =>
    [byteOf channels 0, byteOf channels 1, byteOf channels 2, byteOf channels 3, byteOf channels 4, byteOf channels 5]
      ++ bytes16 delay ++ bytes16 width ++ bytes16 gap ++ [count, slot] ++ bytes16 trigDelay ++ bytes16 label
  | .testCancel => []
  | .faultsRead => []
  | .faultsClear upTo => bytes16 upTo

/-- A command whose body is empty (R181). -/
def emptyBody (c : Command) : List Byte → FrameReading
  | [] => .command c
  | _ => .wrongLength

/-- How a good frame of this KIND and body reads (R168 cases 6 to 8, R181). -/
def readFrame (kind : Byte) (body : List Byte) : FrameReading :=
  match kind.toNat with
  | 0x01 => emptyBody .hello body
  | 0x02 => emptyBody .bye body
  | 0x03 => emptyBody .ping body
  | 0x10 =>
    match body with
    | [a, b] => .command (.get (u16 a b))
    | _ => .wrongLength
  | 0x11 =>
    match body with
    | a :: b :: value => .command (.set (u16 a b) value)
    | _ => .wrongLength
  | 0x12 =>
    match body with
    | [a] => .command (.deviceReset a)
    | _ => .wrongLength
  | 0x20 => emptyBody .start body
  | 0x21 => emptyBody .stop body
  | 0x22 => emptyBody .snapshot body
  | 0x30 =>
    match body with
    | [slot, kind, t0, t1, t2, t3, t4, p0, p1, q0, q1, n0, n1] =>
      .command (.trigger slot kind (u40 t0 t1 t2 t3 t4) (u16 p0 p1) (u16 q0 q1) (u16 n0 n1))
    | _ => .wrongLength
  | 0x31 =>
    match body with
    | [slot, force] => .command (.abort slot force)
    | _ => .wrongLength
  | 0x32 =>
    match body with
    | [slot] => .command (.slotStatus slot)
    | _ => .wrongLength
  | 0x40 =>
    match body with
    | [slot, claim, fromPart] => .command (.fetch slot claim fromPart)
    | _ => .wrongLength
  | 0x41 =>
    match body with
    | [slot, a, b] => .command (.release slot (u16 a b))
    | _ => .wrongLength
  | 0x50 =>
    match body with
    | [position] => .command (.journalSubscribe position)
    | _ => .wrongLength
  | 0x51 =>
    match body with
    | [a, b, c, d] => .command (.journalAck (u32 a b c d))
    | _ => .wrongLength
  | 0x52 => emptyBody .journalRewind body
  | 0x53 => emptyBody .journalUnsubscribe body
  | 0x60 =>
    match body with
    | [c0, c1, c2, c3, c4, c5, d0, d1, w0, w1, g0, g1, count, slot, t0, t1, n0, n1] =>
      .command (.test (u48 c0 c1 c2 c3 c4 c5) (u16 d0 d1) (u16 w0 w1) (u16 g0 g1) count slot (u16 t0 t1) (u16 n0 n1))
    | _ => .wrongLength
  | 0x61 => emptyBody .testCancel body
  | 0x70 => emptyBody .faultsRead body
  | 0x71 =>
    match body with
    | [a, b] => .command (.faultsClear (u16 a b))
    | _ => .wrongLength
  | _ => .unknownKind

end Sys2Proof.Machine
end

