-- ==== Sys2Proof/Machine/Handler.lean ====
section
/-! DEFINITION. A link's command handler and the end of its session: the cases of R168, the reply queue and cache of R169, the passing
of a command to its owning block and of the answer back, and R173. -/

namespace Sys2Proof.Machine

/-! ## Replies (R169) -/

/-- A REPLY joins the tail of the reply queue; made while the session is OPEN it is also written to the cache (R169). -/
def State.answer (s : State) (l : Link) (seq kind : Byte) (body : ReplyBody) (after : AfterReply) : State :=
  let r : Reply := { seq := seq, kind := kind, body := body, after := after }
  s.modLink l fun k => { k with replies := k.replies ++ [r], cache := if k.session.isSome then some r else k.cache }

/-! ## The cases of R168 -/

/-- R168 case 1: the reply queue is full, and the frame is discarded unexecuted. -/
def handlerOverrun (l : Link) (s : State) : State :=
  (s.modLink l fun k => { k with counts := { k.counts with overruns := wrap32 (k.counts.overruns + 1) } }).notify l
    fun n => { n with overrun := true }

/-- R168 case 2: the cached REPLY is queued again. The replay is not written to the cache again (R169), and once sent it calls for
nothing: what its first sending called for came before (log 29). -/
def handlerReplay (l : Link) (r : Reply) (s : State) : State :=
  s.modLink l fun k =>
    { k with
      replies := k.replies ++ [{ r with after := .nothing }]
      counts := { k.counts with replays := wrap32 (k.counts.replays + 1) } }

/-- The handler takes one good frame (R168): the first case that applies. In case 8 the command is passed on and stays in hand until
its owning block has answered it. -/
def handlerTake (l : Link) (f : GoodFrame) (s : State) : State :=
  let k := s.links.get l
  if Config.replyPlaces ≤ k.replies.length then handlerOverrun l s
  else
    match k.cache.filter (fun r => r.seq == f.seq) with
    | some r => handlerReplay l r s
    | none =>
      if s.resetPending then s.answer l f.seq f.kind (.refused .resetting) .nothing
      else if k.session.isSome && k.byeMark then s
      else if k.session.isNone && f.kind != 0x01#8 then s.answer l f.seq f.kind (.refused .noSession) .nothing
      else
        match f.reading with
        | .unknownKind => s.answer l f.seq f.kind (.refused .unknownKind) .nothing
        | .wrongLength => s.answer l f.seq f.kind (.refused .badLength) .nothing
        | .command c => s.modLink l fun k => { k with inHand := some { seq := f.seq, command := c } }

/-- The handler takes the waiting frames in order until one is in hand (R168). -/
def handlerPump (l : Link) : List GoodFrame → State → State
  | [], s => s.modLink l fun k => { k with waiting := [] }
  | f :: rest, s =>
    if (s.links.get l).inHand.isSome then s.modLink l fun k => { k with waiting := f :: rest }
    else handlerPump l rest (handlerTake l f s)

/-- A good frame (R166): it is counted, restarts the session timer and goes to the command handler. -/
def goodFrame (l : Link) (f : GoodFrame) (s : State) : State :=
  let s1 := s.modLink l fun k =>
    { k with
      counts := { k.counts with good := wrap32 (k.counts.good + 1) }
      sinceGood := 0 }
  handlerPump l ((s1.links.get l).waiting ++ [f]) s1

/-! ## Passing a command to its owner -/

/-- What an owning block makes of a command: none while it has not taken it yet; else the state after, the answer, and what the REPLY
calls for once sent. -/
abbrev Owner := State → Option (State × ReplyBody × AfterReply)

/-- The owner's answer becomes the REPLY, and the handler takes the next waiting frame (R168). -/
def finishCommand (l : Link) (seq kind : Byte) (body : ReplyBody) (after : AfterReply) (s : State) : State :=
  let s1 := (s.modLink l fun k => { k with inHand := none }).answer l seq kind body after
  handlerPump l (s1.links.get l).waiting s1

/-- The owning block's happening for the command in hand. While a DEVICE-RESET is pending it is answered RESETTING in place of being
executed (R161, R82). -/
def ownerTakes (l : Link) (seq : Byte) (c : Command) (own : Owner) (s : State) : State :=
  if (s.links.get l).inHand = some { seq := seq, command := c } then
    if s.resetPending then finishCommand l seq c.kind (.refused .resetting) .nothing s
    else
      match own s with
      | none => s
      | some (t, body, after) => finishCommand l seq c.kind body after t
  else s

/-- DESIGN CHOICE (log 3). The row of a host command. When the command is already in hand (its frame came through FRAME_RECEIVED), its
owner takes it. Otherwise the row stands for the arrival of its good frame as well: the frame goes to the handler (R166, R168), and if
the handler passes it on at once its owner takes it. -/
def commandRow (l : Link) (seq : Byte) (c : Command) (own : Owner) (s : State) : State :=
  if (s.links.get l).inHand = some { seq := seq, command := c } then ownerTakes l seq c own s
  else ownerTakes l seq c own (goodFrame l { seq := seq, kind := c.kind, reading := .command c } s)

/-! ## The end of a session (R173) -/

/-- One more session end of this reason (R177). -/
def EndCounts.bump (c : EndCounts) : SessionEndReason → EndCounts
  | .bye => { c with bye := wrap32 (c.bye + 1) }
  | .timeout => { c with timeout := wrap32 (c.timeout + 1) }
  | .lineBreak => { c with lineBreak := wrap32 (c.lineBreak + 1) }
  | .rehello => { c with rehello := wrap32 (c.rehello + 1) }
  | .reset => { c with reset := wrap32 (c.reset + 1) }

/-- The rate that a discarded REPLY would have taken into use (R157, R173). -/
def discardedRate (replies : List Reply) (due : Option Rate) : Option Rate :=
  replies.foldl (fun acc r => match r.after with
    | .takeRate x => some x
    | _ => acc) due

/-- A rate taken into use: the receiver returns to hunting (R157). -/
def LinkState.takeRate (k : LinkState) (r : Rate) : LinkState := { k with rate := r, receiver := .hunt }

/-- A rate that waits is taken up between two frames (R157, R173). -/
def LinkState.takeDueRate (k : LinkState) : LinkState :=
  match k.rateDue with
  | none => k
  | some r => { k.takeRate r with rateDue := none }

/-- Whether a frame is on a link's line. -/
def LinkState.onLine (k : LinkState) : Bool :=
  match k.tx with
  | .sending _ => true
  | _ => false

/-- A rate to be taken into use when the transmitter is next between frames: at once if it is sending nothing (R157, R173). -/
def LinkState.takeFreeRate (k : LinkState) : LinkState := if k.onLine then k else k.takeDueRate

/-- A transmitter between frames at a session end: a frame on the line goes on, and what was asked of the journal is withdrawn, since no
journal frame of the ended session is given after the end (R173; log 18). -/
def Transmitter.atSessionEnd : Transmitter → Transmitter
  | .sending x => .sending x
  | _ => .idle

/-- A command in hand at a session end: it belonged to the ended session (R120), but for HELLO, which a CLOSED link executes (log 18). -/
def keepHello (h : Option InHand) : Option InHand := h.filter fun x => x.command == .hello

/-- The link's own part of R173. The rate of a REPLY it discards is taken at once if nothing is on the line (R157). -/
def LinkState.endSession (k : LinkState) (number : Nat) (reason : SessionEndReason) : LinkState :=
  LinkState.takeFreeRate { k with
    session := none
    byeMark := false
    sinceGood := 0
    replies := []
    cache := none
    notices := Notices.empty
    pendingEnd := some (reason, number)
    counts := { k.counts with ends := k.counts.ends.bump reason }
    rateDue := discardedRate k.replies k.rateDue
    inHand := keepHello k.inHand
    tx := k.tx.atSessionEnd }

/-- The hand-offs of R173: to the slot table, to the link's own readout unit and to the journal. -/
def Wires.endSession (w : Wires) (l : Link) : Wires :=
  { w with
    tableEnds := w.tableEnds.set l (w.tableEnds.get l + 1)
    readoutEnds := w.readoutEnds.set l (w.readoutEnds.get l + 1)
    journalLinkIn := w.journalLinkIn.set l ((w.journalLinkIn.get l).filter (fun m => m != .frameRequest) ++ [.sessionEnd]) }

/-- A REPLY to a DEVICE-RESET discarded with the queue: the reset then waits for this session's SESSION-END (R162). -/
def ResetCondition.atSessionEnd (d : ResetCondition) (l : Link) (number : Nat) (replies : List Reply) : ResetCondition :=
  match d with
  | .pending m keep .reply =>
    if m = l && replies.any (fun r => r.after == .carryOutReset) then .pending m keep (.sessionEnd number) else d
  | _ => d

/-- A link's session ends (R173), for any reason but a reset. Frames that waited for the handler are then taken on the CLOSED link. -/
def endSession (l : Link) (reason : SessionEndReason) (s : State) : State :=
  match (s.links.get l).session with
  | none => s
  | some number =>
    let replies := (s.links.get l).replies
    let s1 := (s.setDevice (s.device.atSessionEnd l number replies)).modLink l fun k => k.endSession number reason
    let s2 := s1.modWires fun w => w.endSession l
    handlerPump l (s2.links.get l).waiting s2

end Sys2Proof.Machine
end

