-- ==== Sys2Proof/Machine/DeviceControl.lean ====
section
/-! DEFINITION. Device control: DEVICE-RESET (R160), its carrying out (R162), the hard reset and the reset pin (R163). -/

namespace Sys2Proof.Machine

/-- The boot epoch that follows the reset (R34). -/
def State.nextEpoch (s : State) : Nat := (s.time.bootEpoch + 1) % 65536

/-- DEVICE-RESET (R160). -/
def deviceResetOwner (l : Link) (keepConfig : Byte) : Owner := fun s =>
  match readYesNo keepConfig with
  | none => some (s, .refused .badValue, .nothing)
  | some keep => some (s.setDevice (.pending l keep .reply), .deviceReset s.nextEpoch, .carryOutReset)

/-- The configuration items after a DEVICE-RESET (R158): the three link items are always kept. -/
def Items.afterReset (x : Items) (keep : Bool) : Items :=
  if keep then x else { Items.default with rateA := x.rateA, rateB := x.rateB, sessionTimeout := x.sessionTimeout }

/-- The timebase after a DEVICE-RESET (R26): the values of a hard reset, the stored period, and the next boot epoch (R34). -/
def Timebase.afterReset (items : Items) (epoch : Nat) : Timebase :=
  { Timebase.reset with period := items.tickPeriod, bootEpoch := epoch }

/-- A REPLY on the line at the carrying out calls for nothing once sent: what it would call for belongs to the session the reset ends, and
its SET's rate is in use already, or was replaced by a later SET's (R162). -/
def FrameBody.atReset : FrameBody → FrameBody
  | .reply r => .reply { r with after := .nothing }
  | b => b

/-- A transmitter at the carrying out: a frame on the line is sent to its end (R162). -/
def Transmitter.atReset : Transmitter → Transmitter
  | .sending x => .sending { x with body := x.body.atReset }
  | _ => .idle

/-- The SESSION-END a link holds after a DEVICE-RESET (R162): RESET for the session it ends, else what it held. -/
def LinkState.endAtReset (k : LinkState) : Option (SessionEndReason × Nat) :=
  match k.session with
  | some n => some (.reset, n)
  | none => k.pendingEnd

/-- The counts after a DEVICE-RESET (R177). -/
def LinkState.countsAtReset (k : LinkState) : LinkCounts :=
  if k.session.isSome then { LinkCounts.zero with ends := LinkCounts.zero.ends.bump .reset } else LinkCounts.zero

/-- A link after a DEVICE-RESET (R162, R164). The stretch of low line stays what it is: no reset makes a low line high (log 20). -/
def LinkState.afterReset (k : LinkState) (rate : Rate) : LinkState :=
  { LinkState.reset with
    stretch := k.stretch
    pendingEnd := k.endAtReset
    rate := rate
    counts := k.countsAtReset
    tx := k.tx.atReset }

/-- The part after a DEVICE-RESET is carried out (R162): every block at its reset state. -/
def State.afterReset (s : State) (keep : Bool) : State :=
  let items := s.items.afterReset keep
  { State.reset with
    items := items
    time := Timebase.afterReset items s.nextEpoch
    cond := Conditioner.reset items
    links := { a := s.links.a.afterReset items.rateA, b := s.links.b.afterReset items.rateB }
    resetPin := s.resetPin
    pending := s.pending }

/-- The pending DEVICE-RESET is carried out once what it waits for has been sent (R162). -/
def resetCarriedOut (s : State) : State :=
  match s.device with
  | .pending _ keep .due => s.afterReset keep
  | _ => s

/-- A hard reset is carried out (R163): everything at its power-on state. The queue is the sender's and stays. -/
def hardReset (s : State) : State := State.reset.setPending s.pending

/-- The reset pin is asserted (R163): ALERT is released, and from here the part does nothing until the hard reset is carried out. -/
def assertPin (s : State) : State := { s.modTrig fun t => { t with alert := false } with resetPin := true }

/-! ## The rows -/

/-- DEVICE_RESET (R160). -/
def execDeviceReset (l : Link) (seq keepConfig : Byte) : State → Host.Outcome State Fault Refusal :=
  unlessHeld (commandRow l seq (.deviceReset keepConfig) (deviceResetOwner l keepConfig))

/-- RESET_CARRIED_OUT (R162). -/
def execResetCarriedOut : State → Host.Outcome State Fault Refusal := unlessHeld resetCarriedOut

/-- HARD_RESET (R163): at power-on, or at the release of the pin. -/
def execHardReset (s : State) : Host.Outcome State Fault Refusal := .next (hardReset s)

/-- RESET_PIN_ASSERTED (R163). -/
def execResetPinAsserted (s : State) : Host.Outcome State Fault Refusal := .next (assertPin s)

end Sys2Proof.Machine
end

