-- ==== Sys2Proof/Machine/Flags.lean ====
section
/-! DEFINITION. The flags of a capture: how the begin of an extraction sets EARLY and OVERRUN (R88), and Table 11-5. -/

namespace Sys2Proof.Machine

/-- S′ at the begin: the larger of S and the oldest available tick (R88). -/
def clippedStart (start : Int) (oldest : Nat) : Int := max start (oldest : Int)

/-- The flags of the clip (R88): when S′ is later than S, EARLY if S is before the run start tick, OVERRUN if the oldest available tick is
after it; and OVERRUN when S′ is later than E′. -/
def clipFlags (f : Flags) (start stop : Int) (oldest runStart : Nat) : Flags :=
  let clipped := decide (clippedStart start oldest > start)
  { f with
    early := f.early || (clipped && decide (start < (runStart : Int)))
    overrun := f.overrun || (clipped && decide (oldest > runStart)) || decide (clippedStart start oldest > stop) }

/-- The flags byte of Table 11-5. -/
def Flags.code (f : Flags) : Byte :=
  BitVec.ofNat 8 ((if f.early then 1 else 0) + (if f.overrun then 2 else 0) + (if f.stopped then 4 else 0) + (if f.full then 8 else 0)
    + (if f.poolShort then 16 else 0) + (if f.rowError then 32 else 0) + (if f.testSeen then 64 else 0))

end Sys2Proof.Machine
end

