-- ==== Sys2Proof/Machine/SlotTable.lean ====
section
/-! DEFINITION. The slot table: offers (R44 to R49, R68 to R70), its sense of time and the sample (R71, R72), the stop (R73), ABORT (R75,
R76), SLOT-STATUS (R79, R80), and the end of a link's session (R121). -/

namespace Sys2Proof.Machine

/-! ## Reading and writing slots -/

/-- The slots of a list of slot numbers, each changed by `f`. -/
def SlotTable.update (t : SlotTable) (which : List (Fin 8)) (f : Capture → Capture) : Vector (Option Capture) 8 :=
  Vector.ofFn fun i => if i ∈ which then t.slots[i].map f else t.slots[i]

/-- The slots of the acceptance list whose captures satisfy `p`, in acceptance-list order (R70). -/
def SlotTable.select (t : SlotTable) (p : Capture → Bool) : List (Fin 8) :=
  t.acceptance.filter fun i =>
    match t.slots[i] with
    | some c => p c
    | none => false

/-- One slot's record replaced. -/
def SlotTable.put (t : SlotTable) (i : Fin 8) (c : Option Capture) : SlotTable := { t with slots := t.slots.set i c }

/-- The window's start S = R − P (R45). -/
def Capture.start (c : Capture) : Int := c.ref - (c.pre : Int)

/-- The window's end E = R + Q (R45). -/
def Capture.stop (c : Capture) : Int := c.ref + (c.post : Int)

/-! ## Offers -/

/-- The reference tick R of an offer, when the source can give its kind (R44, R47 check 4). -/
def State.offerRef (s : State) : Reference → Option Int
  | .absolute t => some (t : Int)
  | .now => some s.tableCurrent
  | .lagged => some (s.tableCurrent - (s.items.lineLag : Int))
  | .ahead n => some (s.tableCurrent + (n : Int))
  | .unknown => none

/-- The lowest-numbered EMPTY slot that is in AUTO_SLOTS (`auto`) or not in it (R48). -/
def State.lowestEmpty (s : State) (auto : Bool) : Option (Fin 8) :=
  (List.finRange 8).find? fun i => (s.slot i).isNone && s.items.autoSlots.getLsbD i == auto

/-- Check 2 of R47: the slot of the request, or its refusal (R48). -/
def State.chooseSlot (s : State) : SlotRequest → Except Result (Fin 8)
  | .numbered n => if h : n < 8 then .ok ⟨n, h⟩ else .error .badValue
  | .any =>
    match s.lowestEmpty false with
    | some i => .ok i
    | none => .error .noSlot
  | .auto =>
    match s.lowestEmpty true with
    | some i => .ok i
    | none => .error .noSlot

/-- An offer that passes every check: its slot, R, P and Q. -/
structure JudgedOffer where
  slot : Fin 8
  ref : Int
  pre : Nat
  post : Nat
  deriving DecidableEq, Repr

/-- The default window of a slot as its item stands (R45, R46). -/
def State.windowOf (s : State) (i : Fin 8) : Window := s.items.windows[i]

/-- The six checks of R47, in order. A refusal carries the slot chosen, once one is (R58). -/
def State.judgeOffer (s : State) (o : Offer) : Except (Result × Option (Fin 8)) JudgedOffer :=
  if !s.time.running then .error (.notRunning, none)
  else
    match s.chooseSlot o.request with
    | .error code => .error (code, none)
    | .ok i =>
      if (s.slot i).isSome then .error (.slotBusy, some i)
      else
        match s.offerRef o.reference with
        | none => .error (.badValue, some i)
        | some r =>
          let p := o.pre.getD (s.windowOf i).pre
          let q := o.post.getD (s.windowOf i).post
          if r > s.tableCurrent + 65535 then .error (.tooFar, some i)
          else if r + (q : Int) < s.tableFloor then .error (.windowGone, some i)
          else if p > 2047 ∨ q > 2047 then .error (.badValue, some i)
          else .ok { slot := i, ref := r, pre := p, post := q }

/-- The serials of the slots that are not EMPTY. -/
def SlotTable.serials (t : SlotTable) : List Nat := t.slots.toList.filterMap fun c => c.map (·.serial)

/-- The search of R68 step 2: the value moved on while it is in use, over at most `k` values. -/
def freshSerial (used : List Nat) : Nat → Nat → Nat
  | 0, v => v
  | k + 1, v => if v ∈ used then freshSerial used k (next65535 v) else v

/-- The record of an accepted offer (R69). -/
def JudgedOffer.capture (j : JudgedOffer) (o : Offer) (serial : Nat) (phase : Phase) : Capture where
  phase := phase
  serial := serial
  source := o.source
  label := o.label
  ref := j.ref
  pre := j.pre
  post := j.post
  effStart := j.ref - (j.pre : Int)
  effEnd := j.ref + (j.post : Int)
  flags := Flags.empty
  records := []
  blocks := []
  initial := none
  fetch := none

/-- Whether a window's end is later than the slot table's newest tick, or it holds none (R49, R69). -/
def State.endsLater (s : State) (stop : Int) : Bool :=
  match s.tableNewest with
  | some t => decide (stop > (t : Int))
  | none => true

/-- Acceptance (R68, R69, R70). -/
def SlotTable.accept (t : SlotTable) (j : JudgedOffer) (o : Offer) (later : Bool) : SlotTable :=
  let serial := freshSerial t.serials 8 t.nextSerial
  { t with
    slots := t.slots.set j.slot (some (j.capture o serial (if later then .armed else .queued)))
    acceptance := t.acceptance ++ [j.slot]
    nextSerial := next65535 serial
    queue := if later then t.queue else t.queue ++ [j.slot] }

/-- The slot table takes an offer as one happening (R43, R47): the state after, and the answer. -/
def takeOffer (o : Offer) (s : State) : State × Answer :=
  match s.judgeOffer o with
  | .error (code, i) => (s, .refused code i)
  | .ok j =>
    (s.modTable fun t => t.accept j o (s.endsLater (j.ref + (j.post : Int))),
      .accepted j.slot (freshSerial s.table.serials 8 s.table.nextSerial) j.ref (j.ref - (j.pre : Int)) (j.ref + (j.post : Int)))

/-- The slot table takes the next LINE offer handed to it, and its answer goes back to the trigger unit (R43, R54). -/
def tableTakeOffer (s : State) : State :=
  match s.wires.lineOffers with
  | [] => s
  | o :: rest =>
    let answered := takeOffer o (s.modWires fun w => { w with lineOffers := rest })
    answered.1.modWires fun w => { w with lineAnswers := w.lineAnswers ++ [(o, answered.2)] }

/-! ## Samples and stops -/

/-- Whether a capture is ARMED and its end is reached at tick `t` (R72). -/
def Capture.dueAt (t : Nat) (c : Capture) : Bool := c.phase == .armed && decide (c.stop ≤ (t : Int))

/-- A capture moved to QUEUED. -/
def Capture.queue (c : Capture) : Capture := { c with phase := .queued }

/-- The slot table records the tick and queues every ARMED slot whose end it reaches (R72). -/
def SlotTable.takeTick (t : SlotTable) (tick : Nat) : SlotTable :=
  let due := t.select (Capture.dueAt tick)
  { t with slots := t.update due Capture.queue, lastTick := some tick, queue := t.queue ++ due }

/-- The slot table takes the next conditioned sample handed to it (R72). -/
def tableTakeSample (s : State) : State :=
  match s.wires.slotIn with
  | .sample c :: rest => (s.modTable fun t => t.takeTick c.tick).modWires fun w => { w with slotIn := rest }
  | _ => s

/-- The pending fetch applied at the happening that makes the slot READY (R109). -/
def Capture.becomeReady (c : Capture) : Capture :=
  { c with
    phase := match c.fetch with
      | some f => if f.claim then .claimed f.link else .ready
      | none => .ready
    fetch := none }

/-- The news of a slot that becomes READY: slot, serial, source and the fetch that is applied (R109). -/
def Capture.news (i : Fin 8) (c : Capture) : ReadoutMessage := .ready i c.serial c.source c.fetch

/-- Whether the newest tick is at or after S, so that the run recorded rows of the window (R73). -/
def Capture.recordedBy (newest : Option Nat) (c : Capture) : Bool :=
  match newest with
  | some t => decide (c.start ≤ (t : Int))
  | none => false

/-- E′ of a slot that a stop cuts (R73). -/
def Capture.cutEnd (newest : Option Nat) (c : Capture) : Int :=
  match newest with
  | some t => (t : Int)
  | none => c.start - 1

/-- An ARMED capture cut by a stop: STOPPED, E′, and QUEUED when rows of its window were recorded, else READY with its pending fetch
applied (R73). -/
def Capture.cut (newest : Option Nat) (c : Capture) : Capture :=
  let marked := { c with flags := { c.flags with stopped := true }, effEnd := c.cutEnd newest }
  if c.recordedBy newest then marked.queue else marked.becomeReady

/-- Whether a capture is ARMED. -/
def Capture.isArmed (c : Capture) : Bool := c.phase == .armed

/-- Every ARMED slot is cut at the last tick recorded, in acceptance-list order (R73). -/
def SlotTable.takeStop (t : SlotTable) (newest : Option Nat) : SlotTable :=
  { t with
    slots := t.update (t.select Capture.isArmed) (Capture.cut newest)
    queue := t.queue ++ t.select (fun c => c.isArmed && c.recordedBy newest) }

/-- The READY news of the slots that a stop cuts straight to READY (R73). -/
def SlotTable.stopNews (t : SlotTable) (newest : Option Nat) : List ReadoutMessage :=
  (t.select fun c => c.isArmed && !c.recordedBy newest).filterMap fun i => (t.slots[i]).map (Capture.news i)

/-- The slot table takes the stop handed to it (R73). -/
def tableTakeStop (s : State) : State :=
  match s.wires.slotIn with
  | .stop _ _ :: rest =>
    let newest := s.tableNewest
    (((s.table.stopNews newest).foldl State.tellReadouts (s.modTable fun t => t.takeStop newest))).modWires fun w => { w with slotIn := rest }
  | _ => s

/-! ## Emptying a slot (R67) -/

/-- A slot becomes EMPTY and leaves the acceptance list (R67). -/
def SlotTable.clear (t : SlotTable) (i : Fin 8) : SlotTable :=
  { t with slots := t.slots.set i none, acceptance := t.acceptance.erase i }

/-- The slot becomes EMPTY and its blocks go back to the pool (R67). -/
def emptySlot (i : Fin 8) (c : Capture) (s : State) : State := (s.modTable fun t => t.clear i).returnFromTable c.blocks

/-! ## ABORT -/

/-- The slot and serial an engine works on (R85). -/
def EngineState.worksOn : EngineState → Option (Fin 8 × Nat)
  | .idle => none
  | .reading r => some (r.slot, r.serial)
  | .working w => some (w.slot, w.serial)
  | .ending w => some (w.slot, w.serial)

/-- The order to drop a slot and serial, handed to one engine if it holds them (R76). -/
def orderDrop (e : Engine) (i : Fin 8) (serial : Nat) (s : State) : State :=
  if (s.engines.get e).worksOn = some (i, serial) then
    s.modWires fun w => { w with drops := w.drops.set e (w.drops.get e ++ [(i, serial)]) }
  else s

/-- What an accepted ABORT does before the slot is emptied, by the state it was in (R76). -/
def abortWork (i : Fin 8) (c : Capture) (s : State) : State :=
  match c.phase with
  | .queued => s.modTable fun t => { t with queue := t.queue.erase i }
  | .extracting => orderDrop .e1 i c.serial (orderDrop .e0 i c.serial s)
  | _ => s

/-- An accepted ABORT (R76). -/
def acceptAbort (i : Fin 8) (c : Capture) (s : State) : State :=
  (emptySlot i c (abortWork i c s)).tellReadouts (.abort i c.serial)

/-- Check 3 of R75: CLAIMED by the other link, and not forced. -/
def Capture.guardedFrom (c : Capture) (l : Link) (force : Bool) : Bool := c.phase == .claimed (otherLink l) && !force

/-- ABORT (R75, R76; force by R180). The slot table takes an earlier end of this link's session first (log 4). -/
def abortOwner (l : Link) (slot force : Byte) : Owner := fun s =>
  if s.wires.tableEnds.get l ≠ 0 then none
  else
    match readYesNo force with
    | none => some (s, .refused .badValue, .nothing)
    | some forced =>
      match readSlot slot with
      | none => some (s, .refused .badValue, .nothing)
      | some i =>
        match s.slot i with
        | none => some (s, .refused .noCapture, .nothing)
        | some c =>
          if c.guardedFrom l forced then some (s, .refused .claimed, .nothing)
          else some (acceptAbort i c s, .abort i c.serial c.phase, .nothing)

/-! ## SLOT-STATUS -/

/-- The working values of an engine as SLOT-STATUS shows them (R85): S′, E′, flags, and the two numbers. -/
def EngineState.shown : EngineState → Option Working
  | .working w => some w
  | .ending w => some w
  | _ => none

/-- The engine state that holds this slot and serial, with values to show (R85). -/
def State.engineShown (s : State) (i : Fin 8) (serial : Nat) : Option Working :=
  if s.engines.x0.worksOn = some (i, serial) then s.engines.x0.shown
  else if s.engines.x1.worksOn = some (i, serial) then s.engines.x1.shown
  else none

/-- A slot report (R80). While an engine goes through the slot's rows, its working values are shown (R85). -/
def State.slotReport (s : State) (i : Fin 8) : SlotReport :=
  match s.slot i with
  | none => { slot := i, capture := none, place := 0, records := 0, blocks := 0 }
  | some c =>
    let place := s.table.acceptance.idxOf i + 1
    match (if c.phase = .extracting then s.engineShown i c.serial else none) with
    | none => { slot := i, capture := some c, place := place, records := c.records.length, blocks := c.blocks.length }
    | some w =>
      { slot := i
        capture := some { c with effStart := w.effStart, effEnd := w.effEnd, flags := w.flags }
        place := place
        records := w.records.length
        blocks := w.blocks.length }

/-- The REPLY of a SLOT-STATUS for these slots (R79). -/
def State.slotStatusReply (s : State) (slots : List (Fin 8)) : ReplyBody :=
  .slotStatus s.tableNewest s.table.nextSerial s.table.queue s.engines.x0.worksOn s.engines.x1.worksOn (slots.map s.slotReport)

/-- SLOT-STATUS (R79). -/
def slotStatusOwner (l : Link) (slot : Byte) : Owner := fun s =>
  if s.wires.tableEnds.get l ≠ 0 then none
  else if slot = 0xFF#8 then some (s, s.slotStatusReply (List.finRange 8), .nothing)
  else
    match readSlot slot with
    | none => some (s, .refused .badValue, .nothing)
    | some i => some (s, s.slotStatusReply [i], .nothing)

/-! ## The end of a link's session (R121) -/

/-- A capture when link `l`'s session has ended: a claim of `l` falls back to READY, a pending fetch of `l` is dropped (R121). -/
def Capture.atSessionEnd (l : Link) (c : Capture) : Capture :=
  { c with
    phase := if c.phase = .claimed l then .ready else c.phase
    fetch := c.fetch.filter fun f => f.link != l }

/-- The slots that become READY again, in acceptance-list order (R121). -/
def SlotTable.claimedBy (t : SlotTable) (l : Link) : List (Fin 8) := t.select fun c => c.phase == .claimed l

/-- The slot table takes the end of link `l`'s session (R121). -/
def tableTakeSessionEnd (l : Link) (s : State) : State :=
  if s.wires.tableEnds.get l = 0 then s
  else
    let again := s.table.claimedBy l
    let other := otherLink l
    (s.modTable fun t => { t with slots := Vector.ofFn fun i => t.slots[i].map (Capture.atSessionEnd l) }).modWires fun w =>
      { w with
        tableEnds := w.tableEnds.set l (w.tableEnds.get l - 1)
        readoutIn := w.readoutIn.set other (w.readoutIn.get other ++ again.map .readyAgain) }

/-! ## The rows -/

/-- ABORT (R75, R76). -/
def execAbort (l : Link) (seq slot force : Byte) : State → Host.Outcome State Fault Refusal :=
  unlessHeld (commandRow l seq (.abort slot force) (abortOwner l slot force))

/-- SLOT_STATUS (R79, R80). -/
def execSlotStatus (l : Link) (seq slot : Byte) : State → Host.Outcome State Fault Refusal :=
  unlessHeld (commandRow l seq (.slotStatus slot) (slotStatusOwner l slot))

/-- SLOT_TABLE_TAKE_SAMPLE (R72). -/
def execSlotTableTakeSample : State → Host.Outcome State Fault Refusal := unlessHeld tableTakeSample

/-- SLOT_TABLE_TAKE_STOP (R73). -/
def execSlotTableTakeStop : State → Host.Outcome State Fault Refusal := unlessHeld tableTakeStop

/-- SLOT_TABLE_OFFER (R47). -/
def execSlotTableOffer : State → Host.Outcome State Fault Refusal := unlessHeld tableTakeOffer

/-- SLOT_TABLE_TAKE_SESSION_END (R121). -/
def execSlotTableTakeSessionEnd (l : Link) : State → Host.Outcome State Fault Refusal := unlessHeld (tableTakeSessionEnd l)

end Sys2Proof.Machine
end

