-- ==== Sys2Proof/Machine/Extraction.lean ====
section
/-! DEFINITION. The extraction queue and the two engines (R84 to R99), and the record pool (R100 to R102). -/

namespace Sys2Proof.Machine

/-! ## Taking a slot (R86, R87) -/

/-- The IDLE engine that the arbiter gives the head of the queue to: engine 0 if it is IDLE (R86). -/
def State.idleEngine (s : State) : Option Engine :=
  if s.engines.x0 = .idle then some .e0 else if s.engines.x1 = .idle then some .e1 else none

/-- An engine asks the ring for a read (R87). -/
def State.askRead (s : State) (e : Engine) (q : ReadRequest) : State :=
  s.modWires fun w => { w with reads := w.reads.set e (w.reads.get e ++ [q]) }

/-- What an engine takes with a slot (R86, R87). -/
def Capture.reading (i : Fin 8) (c : Capture) : Reading where
  slot := i
  serial := c.serial
  ref := c.ref
  start := c.start
  stop := c.effEnd
  flags := c.flags

/-- The read of the ticks S to E′ (R87). -/
def Reading.request (r : Reading) : ReadRequest where
  slot := r.slot
  serial := r.serial
  start := r.start
  stop := r.stop
  answer := none

/-- The head of the queue goes to this engine (R86). A queued slot is not EMPTY; were it EMPTY, it would only leave the queue (log 32). -/
def giveHead (e : Engine) (i : Fin 8) (rest : List (Fin 8)) (s : State) : State :=
  match s.slot i with
  | none => s.modTable fun t => { t with queue := rest }
  | some c =>
    (((s.modTable fun t => { t.put i (some { c with phase := .extracting }) with queue := rest })).setEngine e
      (.reading (c.reading i))).askRead e (c.reading i).request

/-- The slot table gives the head of the queue to an IDLE engine (R86). -/
def engineTakeSlot (s : State) : State :=
  match s.table.queue, s.idleEngine with
  | i :: rest, some e => giveHead e i rest s
  | _, _ => s

/-! ## The begin (R87 to R89) -/

/-- The ROW_CHECK fault of a damaged row (R89, R91). -/
def rowCheck (slot : Fin 8) (serial tick : Nat) : FaultReport := { kind := .rowCheck slot serial, tick := tick }

/-- R89 over the rows of the answer: a damaged row moves S′ on and hands on a fault; the first intact row gives the initial state, the
first baseline, and TEST_SEEN by its marker (R92). The second component lists the faults. -/
def Working.findInitial (w : Working) : List ReadRow → Working × List FaultReport
  | [] => ({ w with rows := [] }, [])
  | r :: rest =>
    match r.content with
    | none =>
      let found := ({ w with effStart := w.effStart + 1, flags := { w.flags with rowError := true } } : Working).findInitial rest
      (found.1, rowCheck w.slot w.serial r.tick :: found.2)
    | some (levels, test) =>
      ({ w with
          initial := some levels
          baseline := some levels
          flags := { w.flags with testSeen := w.flags.testSeen || test }
          rows := rest }, [])

/-- The working values right at the begin, before any row is looked at (R87, R88). -/
def Reading.begun (r : Reading) (oldest runStart : Nat) : Working where
  slot := r.slot
  serial := r.serial
  ref := r.ref
  effStart := clippedStart r.start oldest
  effEnd := r.stop
  flags := clipFlags r.flags r.start r.stop oldest runStart
  initial := none
  records := []
  blocks := []
  baseline := none
  rows := []
  placing := none

/-- The rows from S′ to E′ in the ring's answer (R89). -/
def ReadAnswer.usable (a : ReadAnswer) (start stop : Int) : List ReadRow :=
  a.rows.filter fun r => decide (start ≤ (r.tick : Int)) && decide ((r.tick : Int) ≤ stop)

/-- The begin of an extraction with the ring's fixed answer (R87 to R89). -/
def Reading.begin (r : Reading) (a : ReadAnswer) (runStart : Nat) : Working × List FaultReport :=
  let w := r.begun a.oldest runStart
  w.findInitial (a.usable w.effStart w.effEnd)

/-- A request is the one a READING engine waits for. -/
def ReadRequest.isFor (q : ReadRequest) (slot : Fin 8) (serial : Nat) : Bool := q.slot == slot && q.serial == serial

/-- An engine's reads with the first of those that satisfy `p` taken away. -/
def State.dropRead (s : State) (e : Engine) (p : ReadRequest → Bool) : State :=
  s.modWires fun w => { w with reads := w.reads.set e ((w.reads.get e).eraseP p) }

/-- The ring takes the engine's read, and the extraction begins (R87). -/
def extractionBegin (e : Engine) (s : State) : State :=
  match s.engines.get e with
  | .reading r =>
    match ((s.wires.reads.get e).find? fun q => q.isFor r.slot r.serial).bind fun q => q.take s.ring with
    | none => s
    | some a =>
      let begun := r.begin a (s.time.runStart.getD 1)
      ((s.dropRead e fun q => q.isFor r.slot r.serial).setEngine e (.working begun.1)).engineFault e begun.2
  | _ => s

/-! ## Records (R90) -/

/-- The records of one channel between the baseline and a row, in the order of R90's table. -/
def channelRecords (before after : RowLevels) (offset : Int) (c : Fin 48) : List CaptureRecord :=
  let record (k : RecordKind) : CaptureRecord := { channel := c, kind := k, offset := offset }
  (if before.held.getLsbD c && !after.held.getLsbD c then [record .live] else [])
    ++ (if !before.levels.getLsbD c && after.levels.getLsbD c then [record .rise] else [])
    ++ (if before.levels.getLsbD c && !after.levels.getLsbD c then [record .fall] else [])
    ++ (if !before.held.getLsbD c && after.held.getLsbD c then [record .hold] else [])

/-- The records of a row against the baseline, channels ascending (R90). -/
def rowRecords (before after : RowLevels) (offset : Int) : List CaptureRecord :=
  (List.finRange 48).flatMap (channelRecords before after offset)

/-! ## Placing (R93, R94) -/

/-- A capture cut short at row t: E′ is t − 1 and nothing more is looked at (R93, R94). -/
def Working.cutAt (w : Working) (tick : Nat) : Working :=
  { w with effEnd := (tick : Int) - 1, rows := [], placing := none }

/-- Whether the engine holds the blocks for k more records (R93). -/
def Working.hasRoom (w : Working) (k : Nat) : Bool :=
  decide (ceilDiv (w.records.length + k) Config.blockRecords ≤ w.blocks.length)

/-- The records of a row placed as one; the row becomes the baseline (R90, R93). -/
def Working.place (w : Working) (p : Placing) : Working :=
  { w with records := w.records ++ p.records, baseline := some p.content, placing := none }

/-- What an engine does with the row it has set down (R93): places it, cuts the capture at FULL, or asks for a block first. The second
component says whether it asks. -/
def Working.setDown (w : Working) (p : Placing) : Working × Bool :=
  if p.records.isEmpty then (w.place p, false)
  else if w.records.length + p.records.length > Config.captureRecords then
    (({ w with flags := { w.flags with full := true } }).cutAt p.tick, false)
  else if w.hasRoom p.records.length then (w.place p, false)
  else ({ w with placing := some p }, true)

/-- An engine asks the pool for one block, naming its slot and serial (R94). -/
def State.askBlock (s : State) (e : Engine) (slot : Fin 8) (serial : Nat) : State :=
  s.modWires fun w => { w with blockRequests := w.blockRequests.set e (w.blockRequests.get e ++ [{ slot := slot, serial := serial }]) }

/-- An engine takes its new working values, and asks the pool for a block if it must (R94). -/
def State.setWorking (s : State) (e : Engine) (step : Working × Bool) : State :=
  let s1 := s.setEngine e (.working step.1)
  if step.2 then s1.askBlock e step.1.slot step.1.serial else s1

/-- The row as an engine sets it down against its baseline (R90). An engine with rows left has a baseline (log 32). -/
def Working.placing? (w : Working) (tick : Nat) (levels : RowLevels) : Placing where
  tick := tick
  content := levels
  records := rowRecords (w.baseline.getD levels) levels ((tick : Int) - w.ref)

/-- An engine reaches its next row (R90 to R93). -/
def extractionRow (e : Engine) (s : State) : State :=
  match s.engines.get e with
  | .working w =>
    match w.placing, w.rows with
    | none, r :: rest =>
      match r.content with
      | none =>
        (s.setEngine e (.working { w with rows := rest, flags := { w.flags with rowError := true } })).engineFault e
          [rowCheck w.slot w.serial r.tick]
      | some (levels, test) =>
        let reached : Working := { w with rows := rest, flags := { w.flags with testSeen := w.flags.testSeen || test } }
        s.setWorking e (reached.setDown (reached.placing? r.tick levels))
    | _, _ => s
  | _ => s

/-- The pool's grant: the block is held, and the row placed or the next block asked for (R94). -/
def Working.granted (w : Working) (p : Placing) (block : Nat) : Working × Bool :=
  ({ w with blocks := w.blocks ++ [block] } : Working).setDown p

/-- The pool's refusal (R94). -/
def Working.refused (w : Working) (p : Placing) : Working :=
  ({ w with flags := { w.flags with poolShort := true } }).cutAt p.tick

/-- The POOL_EXHAUSTED fault (R94). -/
def poolExhausted (slot : Fin 8) (serial tick : Nat) : FaultReport := { kind := .poolExhausted slot serial, tick := tick }

/-- The oldest of the pool's answers to an engine taken off the way. -/
def State.dropBlockAnswer (s : State) (e : Engine) : State :=
  s.modWires fun w => { w with blockAnswers := w.blockAnswers.set e (w.blockAnswers.get e).tail }

/-- An engine takes the pool's answer to the request it waits on (R94). -/
def blockAnswer (e : Engine) (s : State) : State :=
  match s.wires.blockAnswers.get e, s.engines.get e with
  | a :: _, .working w =>
    match w.placing with
    | none => s
    | some p =>
      if a.slot = w.slot ∧ a.serial = w.serial then
        let s1 := s.dropBlockAnswer e
        match a.block with
        | some b => s1.setWorking e (w.granted p b)
        | none => (s1.setEngine e (.working (w.refused p))).engineFault e [poolExhausted w.slot w.serial p.tick]
      else s
  | _, _ => s

/-! ## The end (R95, R96) -/

/-- The blocks kept at the trim (R95). -/
def Working.keptBlocks (w : Working) : Nat := ceilDiv w.records.length Config.blockRecords

/-- An engine has dealt with every row it is to deal with (R95). -/
def Working.finished (w : Working) : Bool := w.rows.isEmpty && w.placing.isNone

/-- An engine ends its extraction: it trims, hands the end on and moves to ENDING (R95). -/
def extractionEnd (e : Engine) (s : State) : State :=
  match s.engines.get e with
  | .working w =>
    if w.finished then
      (s.setEngine e (.ending { w with blocks := w.blocks.take w.keptBlocks })).returnFromEngine e (w.blocks.drop w.keptBlocks)
    else s
  | _ => s

/-- The slot record with an extraction's result (R96), before a pending fetch is applied. -/
def Capture.withResult (c : Capture) (w : Working) : Capture :=
  { c with
    effStart := w.effStart
    effEnd := w.effEnd
    flags := w.flags
    initial := w.initial
    records := w.records
    blocks := w.blocks }

/-- Whether a slot is EXTRACTING under this serial (R96). -/
def State.extractsUnder (s : State) (i : Fin 8) (serial : Nat) : Option Capture :=
  (s.slot i).filter fun c => c.phase == .extracting && c.serial == serial

/-- The slot table takes an engine's end (R96). -/
def takeEnd (e : Engine) (s : State) : State :=
  match s.engines.get e with
  | .ending w =>
    match s.extractsUnder w.slot w.serial with
    | some c =>
      ((s.modTable fun t => t.put w.slot (some (c.withResult w).becomeReady)).setEngine e .idle).tellReadouts (c.news w.slot)
    | none => (s.setEngine e .idle).returnFromTable w.blocks
  | _ => s

/-! ## Dropped work (R97, R98) -/

/-- The blocks an engine holds while it may still drop its work (R97). -/
def EngineState.droppable (x : EngineState) (slot : Fin 8) (serial : Nat) : Option (List Nat) :=
  match x with
  | .reading r => if r.slot = slot ∧ r.serial = serial then some [] else none
  | .working w => if w.slot = slot ∧ w.serial = serial then some w.blocks else none
  | _ => none

/-- An engine takes the order to drop a slot and serial (R97). -/
def engineDrop (e : Engine) (s : State) : State :=
  match s.wires.drops.get e with
  | [] => s
  | (slot, serial) :: rest =>
    let s1 := s.modWires fun w => { w with drops := w.drops.set e rest }
    match (s.engines.get e).droppable slot serial with
    | some blocks => (s1.setEngine e .idle).returnFromEngine e blocks
    | none => s1

/-- Whether an engine works on this slot and serial (R98). -/
def State.worksFor (s : State) (e : Engine) (slot : Fin 8) (serial : Nat) : Bool := (s.engines.get e).worksOn == some (slot, serial)

/-- A grant for work the engine has dropped: the block goes straight back (R98). A late refusal carries nothing and is discarded
(log 27). -/
def lateGrant (e : Engine) (s : State) : State :=
  match s.wires.blockAnswers.get e with
  | [] => s
  | a :: _ =>
    if s.worksFor e a.slot a.serial then s
    else (s.dropBlockAnswer e).returnFromEngine e a.block.toList

/-- A read is late: the engine no longer works on its slot and serial, and the ring can answer it. -/
def State.lateRead (s : State) (e : Engine) (q : ReadRequest) : Bool := !s.worksFor e q.slot q.serial && (q.take s.ring).isSome

/-- A ring answer for work the engine has dropped is discarded (R98). -/
def lateRingAnswer (e : Engine) (s : State) : State := s.dropRead e (s.lateRead e)

/-- An answer reaches an engine that has dropped the work it was asked for (R98). -/
def lateEngineAnswer (e : Engine) (a : LateAnswer) (s : State) : State :=
  match a with
  | .grant => lateGrant e s
  | .ringRead => lateRingAnswer e s

/-! ## The pool (R100 to R102) -/

/-- The pool's answer to a request, and the free list after (R101). Any free block may be the one granted: `pick` says which (log 11). -/
def poolAnswer (free : List Nat) (q : BlockRequest) (pick : Nat) : List Nat × BlockAnswer :=
  if free.isEmpty then (free, { slot := q.slot, serial := q.serial, block := none })
  else
    let k := pick % free.length
    (free.eraseIdx k, { slot := q.slot, serial := q.serial, block := free[k]? })

/-- The pool takes an engine's request (R101). -/
def blockRequest (e : Engine) (pick : Nat) (s : State) : State :=
  match s.wires.blockRequests.get e with
  | [] => s
  | q :: rest =>
    let answered := poolAnswer s.pool q pick
    (s.setPool answered.1).modWires fun w =>
      { w with
        blockRequests := w.blockRequests.set e rest
        blockAnswers := w.blockAnswers.set e (w.blockAnswers.get e ++ [answered.2]) }

/-- The pool takes the slot table's next return (R102). -/
def poolReturnTable (s : State) : State :=
  match s.wires.tableReturns with
  | [] => s
  | blocks :: rest => (s.setPool (s.pool ++ blocks)).modWires fun w => { w with tableReturns := rest }

/-- The pool takes an engine's next return (R102). -/
def poolReturnEngine (e : Engine) (s : State) : State :=
  match s.wires.engineReturns.get e with
  | [] => s
  | blocks :: rest => (s.setPool (s.pool ++ blocks)).modWires fun w => { w with engineReturns := w.engineReturns.set e rest }

/-- The pool takes a return (R102). -/
def poolReturn (g : BlockGiver) (s : State) : State :=
  match g with
  | .slotTable => poolReturnTable s
  | .engine e => poolReturnEngine e s

/-! ## The rows -/

/-- ENGINE_TAKE_SLOT (R86). -/
def execEngineTakeSlot : State → Host.Outcome State Fault Refusal := unlessHeld engineTakeSlot

/-- EXTRACTION_BEGIN (R87 to R89). -/
def execExtractionBegin (e : Engine) : State → Host.Outcome State Fault Refusal := unlessHeld (extractionBegin e)

/-- EXTRACTION_ROW (R90 to R93). -/
def execExtractionRow (e : Engine) : State → Host.Outcome State Fault Refusal := unlessHeld (extractionRow e)

/-- BLOCK_REQUEST (R101). -/
def execBlockRequest (e : Engine) (pick : Nat) : State → Host.Outcome State Fault Refusal := unlessHeld (blockRequest e pick)

/-- BLOCK_ANSWER (R94). -/
def execBlockAnswer (e : Engine) : State → Host.Outcome State Fault Refusal := unlessHeld (blockAnswer e)

/-- EXTRACTION_END (R95). -/
def execExtractionEnd (e : Engine) : State → Host.Outcome State Fault Refusal := unlessHeld (extractionEnd e)

/-- EXTRACTION_END_TAKEN (R96). -/
def execExtractionEndTaken (e : Engine) : State → Host.Outcome State Fault Refusal := unlessHeld (takeEnd e)

/-- ENGINE_DROP (R97). -/
def execEngineDrop (e : Engine) : State → Host.Outcome State Fault Refusal := unlessHeld (engineDrop e)

/-- LATE_ENGINE_ANSWER (R98). -/
def execLateEngineAnswer (e : Engine) (a : LateAnswer) : State → Host.Outcome State Fault Refusal := unlessHeld (lateEngineAnswer e a)

/-- POOL_RETURN (R102). -/
def execPoolReturn (g : BlockGiver) : State → Host.Outcome State Fault Refusal := unlessHeld (poolReturn g)

end Sys2Proof.Machine
end

