-- ==== Sys2Proof/Machine/FaultLog.lean ====
section
/-! DEFINITION. The fault log: recording (R150), FAULTS-READ (R151) and FAULTS-CLEAR (R152). -/

namespace Sys2Proof.Machine

/-- One fault recorded, or counted as lost (R150). -/
def FaultLog.record (f : FaultLog) (x : FaultReport) : FaultLog :=
  if f.records.length < Config.faultRecords then
    { f with records := f.records ++ [{ seq := f.nextSeq, report := x }], nextSeq := next65535 f.nextSeq }
  else { f with lost := min 255 (f.lost + 1) }

/-- Faults taken as one happening, in order, and the FAULT notice (R150). -/
def recordFaults (xs : List FaultReport) (s : State) : State :=
  (s.setFaults (xs.foldl FaultLog.record s.faults)).notifyBoth fun n => { n with fault := true }

/-- The next faults of one reporter, taken off the way: all SUPPLY_LOST faults of a conditioned sample together, or one fault of an
engine or of the trigger unit (R150). -/
def State.popFaults (s : State) (r : Reporter) : Option (List FaultReport × State) :=
  match r with
  | .sample =>
    match s.wires.sampleFaults with
    | [] => none
    | xs :: rest => some (xs, s.modWires fun w => { w with sampleFaults := rest })
  | .engine e =>
    match s.wires.engineFaults.get e with
    | [] => none
    | x :: rest => some ([x], s.modWires fun w => { w with engineFaults := w.engineFaults.set e rest })
  | .triggerUnit =>
    match s.wires.triggerFaults with
    | [] => none
    | x :: rest => some ([x], s.modWires fun w => { w with triggerFaults := rest })

/-- The fault log takes the next fault a reporter has handed on (R150). -/
def faultRecord (r : Reporter) (s : State) : State :=
  match s.popFaults r with
  | none => s
  | some (xs, t) => recordFaults xs t

/-- FAULTS-READ (R151). -/
def faultsReadOwner : Owner := fun s => some (s, .faultsRead s.faults.records s.faults.lost s.faults.nextSeq, .nothing)

/-- How many records a FAULTS-CLEAR up to this seq names, counting from the oldest: seqs follow 65535 with 1 (R149, R152). -/
def clearCount (oldest upTo : Nat) : Nat := (upTo + 65535 - oldest) % 65535 + 1

/-- How many records a FAULTS-CLEAR removes (R152). -/
def FaultLog.cleared (f : FaultLog) (upTo : Nat) : Nat :=
  match f.records with
  | [] => 0
  | r :: _ => if upTo = 0 ∨ f.records.length < clearCount r.seq upTo then 0 else clearCount r.seq upTo

/-- The log after a FAULTS-CLEAR that removes this many records; the lost count goes to 0 when it leaves the log empty (R152). -/
def FaultLog.remove (f : FaultLog) (n : Nat) : FaultLog :=
  let left := f.records.drop n
  { f with records := left, lost := if n ≠ 0 ∧ left = [] then 0 else f.lost }

/-- FAULTS-CLEAR (R152). -/
def faultsClearOwner (upTo : BitVec 16) : Owner := fun s =>
  let n := s.faults.cleared upTo.toNat
  let left := s.faults.remove n
  some (s.setFaults left, .faultsClear n left.records.length left.lost, .nothing)

/-! ## The rows -/

/-- FAULT_RECORD (R150). -/
def execFaultRecord (r : Reporter) : State → Host.Outcome State Fault Refusal := unlessHeld (faultRecord r)

/-- FAULTS_READ (R151). -/
def execFaultsRead (l : Link) (seq : Byte) : State → Host.Outcome State Fault Refusal :=
  unlessHeld (commandRow l seq .faultsRead faultsReadOwner)

/-- FAULTS_CLEAR (R152). -/
def execFaultsClear (l : Link) (seq : Byte) (upTo : BitVec 16) : State → Host.Outcome State Fault Refusal :=
  unlessHeld (commandRow l seq (.faultsClear upTo) (faultsClearOwner upTo))

end Sys2Proof.Machine
end

