-- ==== Sys2Proof/Machine/Injector.lean ====
section
/-! DEFINITION. The test injector's commands and its stop: TEST (R62, R144), TEST-CANCEL and the stop (R147). Its work at a sample is in
Conditioner.lean (R145, R146). -/

namespace Sys2Proof.Machine

/-- The fields of a TEST within their ranges (R144 check 1). -/
structure TestFields where
  channels : Bitmap
  delay : Nat
  width : Nat
  gap : Nat
  count : Nat
  slot : Option (Fin 8)
  trigDelay : Nat
  label : Nat
  deriving DecidableEq, Repr

/-- A trigger slot of a TEST: 0 … 7, or none as `$FF` (R180); the outer none is out of range. -/
def readTestSlot (b : Byte) : Option (Option (Fin 8)) := if b = 0xFF#8 then some none else (readSlot b).map some

/-- A pulse width or gap in range. -/
def pulseFits (x : BitVec 16) : Bool := decide (1 ≤ x.toNat) && decide (x.toNat ≤ 4095)

/-- Check 1 of R144. -/
def readTest (channels : Bitmap) (delay width gap : BitVec 16) (count slot : Byte) (trigDelay label : BitVec 16) : Option TestFields :=
  if channels != 0#48 && pulseFits width && pulseFits gap && count != 0#8 then
    (readTestSlot slot).map fun named =>
      { channels := channels
        delay := delay.toNat
        width := width.toNat
        gap := gap.toNat
        count := count.toNat
        slot := named
        trigDelay := trigDelay.toNat
        label := label.toNat }
  else none

/-- The TEST offer (R62). -/
def testOffer (f : TestFields) (i : Fin 8) : Offer where
  source := .test
  request := .numbered i.val
  reference := .ahead f.trigDelay
  pre := none
  post := none
  label := f.label
  test := true

/-- L + 1 of R144: the tick after the last sample the conditioner has worked on in the present run, or the run start tick. The
conditioner's last tick is absent from a START until the run's first sample. -/
def State.nextSampleTick (s : State) : Nat :=
  match s.cond.lastTick with
  | some t => t + 1
  | none => s.time.runStart.getD 1

/-- The run of an accepted TEST (R144). DESIGN CHOICE (log 37): an injected tick above 2^40 − 1 is kept whole. -/
def State.testRun (s : State) (f : TestFields) (trigger : Option (Fin 8 × Nat)) : TestRun where
  channels := f.channels
  width := f.width
  gap := f.gap
  count := f.count
  label := f.label
  trigger := trigger
  first := s.nextSampleTick + f.delay
  last := s.nextSampleTick + f.delay + f.count * f.width + (f.count - 1) * f.gap - 1

/-- The test state of an accepted TEST (R144). -/
def TestFields.begin (f : TestFields) (run : TestRun) : Injector :=
  if f.delay = 0 then .injecting run 1 true run.width else .delay run f.delay

/-- An accepted TEST, with the trigger it raised if it named a slot (R144). -/
def acceptTest (f : TestFields) (trigger : Option (Fin 8 × Nat × Int × Int × Int)) (s : State) : State × ReplyBody :=
  let run := s.testRun f (trigger.map fun x => (x.1, x.2.1))
  (s.setInjector (f.begin run), .test run.first run.last trigger)

/-- The injector hands the journal a TRIGGER entry (R62). -/
def State.testEntry (s : State) (i : Fin 8) (serial : Nat) : State :=
  s.modWires fun w => { w with testEntries := w.testEntries ++ [{ kind := .trigger i serial .test, test := true }] }

/-- A TEST that names a slot: the offer first, then acceptance or the offer's refusal (R144 check 4). -/
def offerTest (f : TestFields) (i : Fin 8) (s : State) : State × ReplyBody :=
  match takeOffer (testOffer f i) s with
  | (t, .accepted slot serial r a b) => acceptTest f (some (slot, serial, r, a, b)) (t.testEntry slot serial)
  | (t, .refused code _) => (t, .refused code)

/-- TEST (R144). -/
def testOwner (channels : Bitmap) (delay width gap : BitVec 16) (count slot : Byte) (trigDelay label : BitVec 16) : Owner := fun s =>
  match readTest channels delay width gap count slot trigDelay label with
  | none => some (s, .refused .badValue, .nothing)
  | some f =>
    if s.injector ≠ .idle then some (s, .refused .testBusy, .nothing)
    else if !s.time.running then some (s, .refused .notRunning, .nothing)
    else
      let done := match f.slot with
        | none => acceptTest f none s
        | some i => offerTest f i s
      some (done.1, done.2, .nothing)

/-- TEST-CANCEL (R147). -/
def testCancelOwner : Owner := fun s => some (s.setInjector .idle, .testCancel s.injector, .nothing)

/-- The injector takes the stop handed to it (R147). -/
def injectorTakeStop (s : State) : State :=
  if s.wires.injectorStop then (s.setInjector .idle).modWires fun w => { w with injectorStop := false } else s

/-! ## The rows -/

/-- TEST (R144). -/
def execTest (l : Link) (seq : Byte) (channels : Bitmap) (delay width gap : BitVec 16) (count slot : Byte)
    (trigDelay label : BitVec 16) : State → Host.Outcome State Fault Refusal :=
  unlessHeld (commandRow l seq (.test channels delay width gap count slot trigDelay label)
    (testOwner channels delay width gap count slot trigDelay label))

/-- TEST_CANCEL (R147). -/
def execTestCancel (l : Link) (seq : Byte) : State → Host.Outcome State Fault Refusal :=
  unlessHeld (commandRow l seq .testCancel testCancelOwner)

/-- INJECTOR_TAKE_STOP (R147). -/
def execInjectorTakeStop : State → Host.Outcome State Fault Refusal := unlessHeld injectorTakeStop

end Sys2Proof.Machine
end

