-- ==== Sys2Proof/Machine/Layout.lean ====
section
/-! DEFINITION. The bytes of every frame the part sends (spec/11): the frame check of R178, the replies of R182, the device-to-host
bodies, records, entries and fault records of R183 and R184, and the code tables of section 11.9. -/

namespace Sys2Proof.Machine

/-! ## The frame check (R178) -/

/-- One shift of the check register. -/
def crcShift (r : BitVec 16) : BitVec 16 := if r.getLsbD 15 then (r <<< 1) ^^^ 0x1021#16 else r <<< 1

/-- One byte taken into the check register: XORed into the high eight bits, then eight shifts. -/
def crcByte (r : BitVec 16) (b : Byte) : BitVec 16 :=
  let x := r ^^^ (b ++ 0#8)
  crcShift (crcShift (crcShift (crcShift (crcShift (crcShift (crcShift (crcShift x)))))))

/-- The check over LEN, SEQ, KIND and the body. -/
def crcOf (bytes : List Byte) : BitVec 16 := bytes.foldl crcByte 0xFFFF#16

/-- The bytes of a frame on the line (spec/11 section 11.1): SYNC, LEN, SEQ, KIND, BODY and the check, high byte first. -/
def frameBytes (seq kind : Byte) (body : List Byte) : List Byte :=
  let checked := BitVec.ofNat 8 body.length :: seq :: kind :: body
  (0xC3#8 :: checked) ++ [byteOf (crcOf checked) 1, byteOf (crcOf checked) 0]

/-! ## Code tables (section 11.9) -/

/-- Table 11-2. -/
def Result.code : Result → Byte
  | .ok => 0x00#8
  | .pending => 0x01#8
  | .queued => 0x02#8
  | .unknownKind => 0x10#8
  | .badLength => 0x11#8
  | .badValue => 0x12#8
  | .noSession => 0x13#8
  | .resetting => 0x14#8
  | .readOnly => 0x15#8
  | .unknownItem => 0x16#8
  | .notRunning => 0x20#8
  | .notStopped => 0x21#8
  | .busy => 0x22#8
  | .limit => 0x23#8
  | .slotBusy => 0x30#8
  | .noSlot => 0x31#8
  | .windowGone => 0x32#8
  | .tooFar => 0x33#8
  | .noCapture => 0x40#8
  | .fetchPending => 0x41#8
  | .claimed => 0x42#8
  | .notHolder => 0x43#8
  | .stale => 0x44#8
  | .alreadyQueued => 0x45#8
  | .notSubscribed => 0x50#8
  | .alreadySubscribed => 0x51#8
  | .testBusy => 0x60#8

/-- Slot state codes (Table 11-6); EMPTY is 0. -/
def Phase.code : Phase → Nat
  | .armed => 1
  | .queued => 2
  | .extracting => 3
  | .ready => 4
  | .claimed _ => 5

/-- Source codes (Table 11-6). -/
def Source.code : Source → Nat
  | .linkA => 0
  | .linkB => 1
  | .line => 2
  | .auto => 3
  | .test => 4

/-- Record kind codes (Table 11-6). -/
def RecordKind.code : RecordKind → Nat
  | .rise => 0
  | .fall => 1
  | .hold => 2
  | .live => 3

/-- Entry kind codes (Table 11-6). -/
def EntryKind.code : EntryKind → Nat
  | .rise _ => 0
  | .fall _ => 1
  | .hold _ _ => 2
  | .live _ _ _ => 3
  | .supplyLost _ => 4
  | .supplyBack _ => 5
  | .runStart => 6
  | .runStop _ => 7
  | .trigger _ _ _ => 8
  | .triggerRefused _ _ => 9
  | .loss _ _ _ => 10

/-- Hold reason codes (Table 11-6). -/
def HoldReason.code : HoldReason → Nat
  | .chatter => 0
  | .supply => 1
  | .disabled => 2

/-- Stop reason codes (Table 11-6). -/
def StopReason.code : StopReason → Nat
  | .none => 0
  | .stop => 1
  | .limit => 2

/-- CAPTURE-END status codes (Table 11-6). -/
def EndStatus.code : EndStatus → Nat
  | .complete => 0
  | .cut => 1
  | .aborted => 2

/-- Fault kind codes (Table 11-6). -/
def FaultKind.code : FaultKind → Nat
  | .rowCheck _ _ => 0
  | .supplyLost _ => 1
  | .poolExhausted _ _ => 2
  | .autoMissed _ => 3

/-- Test state codes (Table 11-6). -/
def Injector.code : Injector → Nat
  | .idle => 0
  | .delay _ _ => 1
  | .injecting _ _ _ _ => 2

/-- Link codes (Table 11-6). -/
def linkCode : Link → Nat
  | .A => 0
  | .B => 1

/-- SESSION-END reasons (Table 11-7). -/
def SessionEndReason.code : SessionEndReason → Nat
  | .bye => 0
  | .timeout => 1
  | .lineBreak => 2
  | .rehello => 3
  | .reset => 4

/-! ## Records, entries, fault records -/

/-- A capture record: channel, kind, offset i16 (section 11.5). -/
def CaptureRecord.bytes (r : CaptureRecord) : List Byte :=
  leBytes 1 r.channel.val ++ leBytes 1 r.kind.code ++ leSigned 2 r.offset

/-- Zero bytes to fill a field up to `k` bytes. -/
def padTo (k : Nat) (bs : List Byte) : List Byte := bs ++ List.replicate (k - bs.length) 0#8

/-- A slot number, or `$FF` when absent. -/
def slotOrFF : Option (Fin 8) → List Byte
  | some i => leBytes 1 i.val
  | none => [0xFF#8]

/-- The detail of a journal entry (section 11.6; a LOSS reduced to fit by R184). DESIGN CHOICE (log 38): of a lost tick later than the entry's,
which R184 says cannot be, the distance is sent as 0. -/
def EntryKind.detail (tick : Nat) : EntryKind → List Byte
  | .rise c => leBytes 1 c.val
  | .fall c => leBytes 1 c.val
  | .live c _ _ => leBytes 1 c.val
  | .hold c r => leBytes 1 c.val ++ leBytes 1 r.code
  | .supplyLost g => leBytes 1 g.val
  | .supplyBack g => leBytes 1 g.val
  | .runStart => []
  | .runStop r => leBytes 1 r.code
  | .trigger i serial source => leBytes 1 i.val ++ leBytes 2 serial ++ leBytes 1 source.code
  | .triggerRefused source i => slotOrFF i ++ leBytes 1 source.code
  | .loss count first last =>
    leBytes 2 (min count 65535) ++ leBytes 3 (min (tick - first) 0xFFFFFF) ++ leBytes 3 (min (tick - last) 0xFFFFFF)

/-- Byte 0 of a journal entry: kind, test flag, RETURN and new level (section 11.6). -/
def Entry.head (e : Entry) : Nat :=
  e.kind.code + (if e.test then 16 else 0)
    + (match e.kind with
       | .live _ level ret => (if ret then 32 else 0) + (if level then 64 else 0)
       | _ => 0)

/-- A journal entry in a JOURNAL-DATA frame: 14 bytes (section 11.6). -/
def Entry.bytes (e : Entry) : List Byte :=
  leBytes 1 e.head ++ leBytes 5 e.tick ++ padTo 8 (e.kind.detail e.tick)

/-- The detail of a fault record (section 11.7). -/
def FaultKind.detail : FaultKind → List Byte
  | .rowCheck i serial => leBytes 1 i.val ++ leBytes 2 serial
  | .poolExhausted i serial => leBytes 1 i.val ++ leBytes 2 serial
  | .supplyLost g => leBytes 1 g.val
  | .autoMissed c => leBytes 1 c.val

/-- A fault record: 11 bytes (section 11.7). -/
def FaultRecord.bytes (r : FaultRecord) : List Byte :=
  leBytes 2 r.seq ++ leBytes 1 r.report.kind.code ++ leBytes 5 r.report.tick ++ padTo 3 r.report.kind.detail

/-! ## Slot reports (Table 11-3) -/

/-- The link code of Table 11-3, byte 3: 0 absent, 1 Link A, 2 Link B. -/
def linkCode3 : Option Link → Nat
  | none => 0
  | some l => linkCode l + 1

/-- The claim holder of a phase (R105). -/
def Phase.holder : Phase → Option Link
  | .claimed l => some l
  | _ => none

/-- A slot report: 27 bytes (Table 11-3). -/
def SlotReport.bytes (r : SlotReport) : List Byte :=
  match r.capture with
  | none => padTo 27 (leBytes 1 r.slot.val)
  | some c =>
    leBytes 1 (r.slot.val + 8 * c.phase.code + (if c.initial.isSome then 64 else 0))
      ++ leBytes 2 c.serial
      ++ leBytes 1 (c.source.code + 8 * linkCode3 c.phase.holder + 32 * linkCode3 (c.fetch.map (·.link))
          + (if (c.fetch.map (·.claim)).getD false then 128 else 0))
      ++ leBytes 1 ((c.fetch.map (·.fromPart)).getD 0)
      ++ leBytes 1 r.place
      ++ leBytes 2 c.label
      ++ leSigned 6 c.ref
      ++ leBytes 3 (c.pre + 2048 * c.post)
      ++ leSigned 3 (c.effStart - c.ref)
      ++ leSigned 3 (c.effEnd - c.ref)
      ++ [c.flags.code]
      ++ leBytes 2 r.records
      ++ leBytes 1 r.blocks

/-- An engine's slot and serial, `$FF` and 0 when IDLE (R182). -/
def engineBytes : Option (Fin 8 × Nat) → List Byte
  | none => 0xFF#8 :: leBytes 2 0
  | some (i, serial) => leBytes 1 i.val ++ leBytes 2 serial

/-! ## Replies (R182) -/

/-- The result code a REPLY carries. -/
def ReplyBody.result : ReplyBody → Result
  | .refused code => code
  | .fetchPending _ _ _ => .pending
  | .fetchQueued _ _ _ _ _ _ => .queued
  | _ => .ok

/-- The fields of a REPLY after kind and result (R182). DESIGN CHOICE (log 37): of an injected tick above 2^40 − 1, which a 5-byte tick cannot
hold, the TEST REPLY carries the low 40 bits. -/
def ReplyBody.fields : ReplyBody → List Byte
  | .refused _ => []
  | .hello link boot number label =>
    Config.vendorName ++ Config.familyName ++ Config.partName ++ leBytes 1 Config.revision ++ leBytes 1 (linkCode link) ++ leBytes 2 boot
      ++ leBytes 2 number ++ label.toList
  | .session n => leBytes 2 n
  | .item id value => leBytes 2 id.toNat ++ value
  | .deviceReset boot => leBytes 2 boot
  | .start tick => leBytes 5 tick
  | .stop tick => optTick tick
  | .snapshot none => optTick none
  | .snapshot (some v) =>
    optTick (some v.tick) ++ bitmapBytes v.levels ++ bitmapBytes v.raws ++ bitmapBytes v.chatter ++ bitmapBytes v.supply
      ++ bitmapBytes v.disabled
  | .trigger i serial r s e => leBytes 1 i.val ++ leBytes 2 serial ++ leSigned 6 r ++ leSigned 6 s ++ leSigned 6 e
  | .abort i serial was => leBytes 1 i.val ++ leBytes 2 serial ++ leBytes 1 was.code
  | .slotStatus newest nextSerial queue e0 e1 reports =>
    optTick newest ++ leBytes 2 nextSerial
      ++ (queue.map fun i => BitVec.ofNat 8 i.val) ++ List.replicate (8 - queue.length) 0xFF#8
      ++ engineBytes e0 ++ engineBytes e1 ++ reports.flatMap SlotReport.bytes
  | .fetchPending i serial phase => leBytes 1 i.val ++ leBytes 2 serial ++ leBytes 1 phase.code ++ leBytes 4 0
  | .fetchQueued i serial phase records parts ahead =>
    leBytes 1 i.val ++ leBytes 2 serial ++ leBytes 1 phase.code ++ leBytes 2 records ++ leBytes 1 parts ++ leBytes 1 ahead
  | .release i serial blocks => leBytes 1 i.val ++ leBytes 2 serial ++ leBytes 1 blocks
  | .subscribe acked cursor oldest newest held loss =>
    leBytes 4 acked ++ leBytes 4 cursor ++ leBytes 4 oldest ++ leBytes 4 newest ++ leBytes 2 held ++ leBytes 4 loss
  | .ack acked removed oldest => leBytes 4 acked ++ leBytes 2 removed ++ leBytes 4 oldest
  | .rewind cursor => leBytes 4 cursor
  | .unsubscribe removed => leBytes 2 removed
  | .test first last given =>
    leBytes 5 first ++ leBytes 5 last
      ++ (match given with
          | none => 0xFF#8 :: leBytes 20 0
          | some (i, serial, r, s, e) => leBytes 1 i.val ++ leBytes 2 serial ++ leSigned 6 r ++ leSigned 6 s ++ leSigned 6 e)
  | .testCancel was => leBytes 1 was.code
  | .faultsRead records lost next =>
    leBytes 1 records.length ++ leBytes 1 lost ++ leBytes 2 next ++ records.flatMap FaultRecord.bytes
  | .faultsClear removed left lost => leBytes 1 removed ++ leBytes 1 left ++ leBytes 1 lost

/-! ## Device-to-host bodies (R183) -/

/-- The kinds byte of a NOTICE (Table 11-8). -/
def Notices.kinds (n : Notices) : Nat :=
  (if n.slotReady.isSome then 1 else 0) + (if n.alert.isSome then 2 else 0) + (if n.fault then 4 else 0)
    + (if n.rxError then 8 else 0) + (if n.overrun then 16 else 0)

/-- The body of a NOTICE (section 11.5). -/
def Notices.bytes (n : Notices) : List Byte :=
  leBytes 1 n.kinds
    ++ (match n.slotReady with
        | none => []
        | some slots => [slots])
    ++ (match n.alert with
        | none => []
        | some a => leBytes 2 a.count ++ leBytes 1 a.channel.val ++ leBytes 5 a.tick)

/-- A CAPTURE-HEAD: 70 bytes (Table 11-4). -/
def Head.bytes (h : Head) : List Byte :=
  let c := h.capture
  leBytes 1 h.slot.val ++ leBytes 2 c.serial ++ leBytes 1 c.source.code ++ leBytes 2 c.label
    ++ leSigned 6 c.ref ++ leBytes 2 c.pre ++ leBytes 2 c.post
    ++ leSigned 6 (c.ref - c.pre) ++ leSigned 6 (c.ref + c.post) ++ leSigned 6 c.effStart ++ leSigned 6 c.effEnd
    ++ [c.flags.code] ++ leBytes 2 c.records.length ++ leBytes 1 h.partCount ++ leBytes 1 h.fromPart ++ leBytes 1 c.phase.code
    ++ (match c.phase.holder with
        | none => [0xFF#8]
        | some l => leBytes 1 (linkCode l))
    ++ yesNo c.initial.isSome
    ++ bitmapBytes ((c.initial.map (·.levels)).getD 0) ++ bitmapBytes ((c.initial.map (·.held)).getD 0)
    ++ leBytes 2 h.bootEpoch ++ h.label.toList

/-- The KIND of an outgoing frame (Table 11-1). -/
def FrameBody.kind : FrameBody → Byte
  | .reply _ => 0x80#8
  | .notice _ => 0x81#8
  | .sessionEnd _ _ => 0x82#8
  | .captureHead _ => 0x90#8
  | .capturePart _ _ _ _ => 0x91#8
  | .captureEnd _ _ _ _ => 0x92#8
  | .journalData _ _ => 0xA0#8

/-- The body bytes of an outgoing frame (R182, R183). -/
def FrameBody.bytes : FrameBody → List Byte
  | .reply r => r.kind :: r.body.result.code :: r.body.fields
  | .notice n => n.bytes
  | .sessionEnd reason n => leBytes 1 reason.code ++ leBytes 2 n
  | .captureHead h => h.bytes
  | .capturePart i serial part records =>
    leBytes 1 i.val ++ leBytes 2 serial ++ leBytes 1 part ++ leBytes 1 records.length ++ records.flatMap CaptureRecord.bytes
  | .captureEnd i serial status sent => leBytes 1 i.val ++ leBytes 2 serial ++ leBytes 1 status.code ++ leBytes 1 sent
  | .journalData first entries => leBytes 4 first ++ entries.flatMap Entry.bytes

end Sys2Proof.Machine
end

