-- ==== Sys2Proof/Machine/Transmit.lean ====
section
/-! DEFINITION. A frame goes onto a link's line: the SEQ it carries (R176), its bytes (spec/11 section 11.1) and the rate it is sent at
(R175). -/

namespace Sys2Proof.Machine

/-- The SEQ of an outgoing frame: a REPLY's is its command's, every other frame's is the out-sequence counter (R176). -/
def LinkState.frameSeq (k : LinkState) : FrameBody → Nat
  | .reply r => r.seq.toNat
  | _ => k.outSeq

/-- The out-sequence counter after a frame is chosen (R176). -/
def LinkState.nextOutSeq (k : LinkState) : FrameBody → Nat
  | .reply _ => k.outSeq
  | _ => (k.outSeq + 1) % 256

/-- The frame as it stands on the line. -/
def LinkState.frameFor (k : LinkState) (b : FrameBody) : Sending where
  seq := k.frameSeq b
  body := b
  bytes := frameBytes (BitVec.ofNat 8 (k.frameSeq b)) b.kind b.bytes
  rate := k.rate

/-- A link's transmitter starts a frame, at the rate in use (R175, R176). -/
def LinkState.startFrame (k : LinkState) (b : FrameBody) : LinkState :=
  { k with tx := .sending (k.frameFor b), outSeq := k.nextOutSeq b }

end Sys2Proof.Machine
end

