-- ==== Sys2Proof/Machine/Journal.lean ====
section
/-! DEFINITION. The event journal: appending and retention (R126, R131 to R133), what it takes (R128 to R130), subscribers and their
commands (R135 to R139), journal frames (R136), and the end of a session (R140). -/

namespace Sys2Proof.Machine

/-! ## Sequence numbers (R126) -/

/-- The seq before another, modulo 2^32. -/
def prevSeq (n : Nat) : Nat := wrap32 (n + 4294967295)

/-- The oldest seq (R126). -/
def Journal.oldest (j : Journal) : Nat := (j.entries.head?.map (·.seq)).getD j.nextSeq

/-- The newest seq (R126). -/
def Journal.newest (j : Journal) : Nat := prevSeq j.nextSeq

/-- The distance of a seq from oldest − 1 (R126). -/
def Journal.distance (j : Journal) (seq : Nat) : Nat := wrap32 (seq + 1 + (4294967296 - j.oldest))

/-! ## Appending (R131, R132) -/

/-- An entry to be made: its kind, tick and test flag. -/
structure NewEntry where
  kind : EntryKind
  tick : Nat
  test : Bool
  deriving DecidableEq, Repr

/-- An entry joins the journal with the next seq (R126). -/
def Journal.push (j : Journal) (e : NewEntry) : Journal :=
  { j with
    entries := j.entries ++ [{ seq := j.nextSeq, kind := e.kind, tick := e.tick, test := e.test }]
    nextSeq := wrap32 (j.nextSeq + 1) }

/-- The oldest entry leaves when 1024 are held (R131). -/
def Journal.makeRoom (j : Journal) : Journal :=
  if j.entries.length < Config.journalEntries then j else { j with entries := j.entries.drop 1 }

/-- The LOSS entry for what has been lost (R131, R133). -/
def Journal.lossEntry (j : Journal) (now : Nat) : NewEntry where
  kind := .loss j.lossCount (j.firstLost.getD 0) (j.lastLost.getD 0)
  tick := now
  test := false

/-- The loss count back at 0. -/
def Journal.clearLoss (j : Journal) : Journal := { j with lossCount := 0, firstLost := none, lastLost := none }

/-- The LOSS entry that is due goes in first (R131). -/
def Journal.settleLoss (j : Journal) (now : Nat) : Journal :=
  if j.lossCount = 0 then j else (j.makeRoom.push (j.lossEntry now)).clearLoss

/-- R131. -/
def Journal.historyAppend (j : Journal) (now : Nat) (e : NewEntry) : Journal := ((j.settleLoss now).makeRoom).push e

/-- An entry discarded and counted as lost (R132). -/
def Journal.lose (j : Journal) (tick : Nat) : Journal :=
  { j with
    lossCount := min 4294967295 (j.lossCount + 1)
    firstLost := if j.lossCount = 0 then some tick else j.firstLost
    lastLost := some tick }

/-- R132. -/
def Journal.subscribedAppend (j : Journal) (e : NewEntry) : Journal :=
  if j.entries.length < Config.journalEntries then j.push e else j.lose e.tick

/-- Subscribed mode: at least one subscriber record is present (R125). -/
def Journal.subscribed (j : Journal) : Bool := j.subs.a.isSome || j.subs.b.isSome

/-- An entry is appended, or discarded, by the mode the journal is in (R131, R132). -/
def Journal.append (j : Journal) (now : Nat) (e : NewEntry) : Journal :=
  if j.subscribed then j.subscribedAppend e else j.historyAppend now e

/-! ## Removal (R133) -/

/-- The lowest acknowledged position among the subscribers, as a distance (R133); 0 with no subscriber. -/
def Journal.ackDistance (j : Journal) : Nat :=
  match j.subs.a, j.subs.b with
  | some x, some y => min (j.distance x.acked) (j.distance y.acked)
  | some x, none => j.distance x.acked
  | none, some y => j.distance y.acked
  | none, none => 0

/-- Acknowledged entries are removed, and a LOSS entry goes in when room was made for it (R133). -/
def Journal.removeAcked (j : Journal) (now : Nat) : Journal :=
  let n := min j.ackDistance j.entries.length
  let left := { j with entries := j.entries.drop n }
  if n = 0 ∨ j.lossCount = 0 then left else (left.push (j.lossEntry now)).clearLoss

/-- The number of entries a removal takes away (R137, R139). -/
def Journal.removable (j : Journal) : Nat := min j.ackDistance j.entries.length

/-! ## What the journal takes (R128 to R130) -/

/-- A change's entry kind (R128). -/
def Change.entryKind (c : Change) : EntryKind :=
  match c.kind with
  | .rise => .rise c.channel
  | .fall => .fall c.channel
  | .hold r => .hold c.channel r
  | .live level ret => .live c.channel level ret

/-- A supply event's entry (R128). -/
def SupplyEvent.entry (tick : Nat) (v : SupplyEvent) : NewEntry :=
  { kind := if v.lost then .supplyLost v.group else .supplyBack v.group, tick := tick, test := false }

/-- A change's entry (R128). -/
def Change.entry (tick : Nat) (c : Change) : NewEntry := { kind := c.entryKind, tick := tick, test := c.test }

/-- The entries of a conditioned sample, in order (R128). -/
def Conditioned.entries (c : Conditioned) : List NewEntry :=
  c.events.map (SupplyEvent.entry c.tick) ++ (c.changes.filter (·.journal)).map (Change.entry c.tick)

/-- Entries appended in turn. -/
def Journal.appendAll (j : Journal) (now : Nat) (es : List NewEntry) : Journal := es.foldl (fun j e => j.append now e) j

/-- The journal's next hand-off from the timebase or the conditioner taken off the way. -/
def State.dropJournalIn (s : State) : State := s.modWires fun w => { w with journalIn := w.journalIn.tail }

/-- The journal takes the next conditioned sample handed to it (R128). -/
def journalTakeSample (s : State) : State :=
  match s.wires.journalIn with
  | .sample c :: _ =>
    let s1 := s.dropJournalIn.modJournal fun j => { j with lastTick := some c.tick }
    s1.modJournal fun j => j.appendAll s1.journalNow c.entries
  | _ => s

/-- The journal takes the START (R129). -/
def journalRunStart (s : State) : State :=
  match s.wires.journalIn with
  | .runStart tick :: _ => s.dropJournalIn.modJournal fun j => j.append s.journalNow { kind := .runStart, tick := tick, test := false }
  | _ => s

/-- The journal takes the stop (R129). -/
def journalRunStop (s : State) : State :=
  match s.wires.journalIn with
  | .stop reason tick :: _ =>
    s.dropJournalIn.modJournal fun j => j.append s.journalNow { kind := .runStop reason, tick := tick, test := false }
  | _ => s

/-- The entry of a TRIGGER or TRIGGER_REFUSED, with the journal's current tick (R130). -/
def TriggerEntry.entry (now : Nat) (x : TriggerEntry) : NewEntry := { kind := x.kind, tick := now, test := x.test }

/-- The next entry of one giver, taken off the way (R130). -/
def State.popTriggerEntry (s : State) (g : EntryGiver) : Option (TriggerEntry × State) :=
  match g with
  | .triggerUnit =>
    match s.wires.triggerEntries with
    | [] => none
    | x :: rest => some (x, s.modWires fun w => { w with triggerEntries := rest })
  | .injector =>
    match s.wires.testEntries with
    | [] => none
    | x :: rest => some (x, s.modWires fun w => { w with testEntries := rest })

/-- The journal takes a TRIGGER or TRIGGER_REFUSED entry (R130). -/
def journalTakeTriggerEntry (g : EntryGiver) (s : State) : State :=
  match s.popTriggerEntry g with
  | none => s
  | some (x, t) => t.modJournal fun j => j.append s.journalNow (x.entry s.journalNow)

/-! ## Subscribers -/

/-- One link's subscriber record replaced. -/
def Journal.setSub (j : Journal) (l : Link) (x : Option Subscriber) : Journal := { j with subs := j.subs.set l x }

/-- A session end of this link is on its way to the journal: it is taken before any command of the link (R173; log 4). -/
def State.journalEndDue (s : State) (l : Link) : Bool := (s.wires.journalLinkIn.get l).contains .sessionEnd

/-- The starting positions of a JOURNAL-SUBSCRIBE (Table 11-6): `some true` is FROM_OLDEST. -/
def readPosition (b : Byte) : Option Bool := if b = 0#8 then some true else if b = 1#8 then some false else none

/-- A new subscriber record (R135). -/
def Journal.newSubscriber (j : Journal) (fromOldest : Bool) : Subscriber where
  acked := if fromOldest then prevSeq j.oldest else j.newest
  cursor := if fromOldest then j.oldest else j.nextSeq
  inFlight := none

/-- The REPLY of an accepted JOURNAL-SUBSCRIBE (R135). -/
def Journal.subscribeReply (j : Journal) (x : Subscriber) : ReplyBody :=
  .subscribe x.acked x.cursor j.oldest j.newest j.entries.length j.lossCount

/-- JOURNAL-SUBSCRIBE (R135). -/
def subscribeOwner (l : Link) (position : Byte) : Owner := fun s =>
  if s.journalEndDue l then none
  else
    match readPosition position with
    | none => some (s, .refused .badValue, .nothing)
    | some fromOldest =>
      if (s.journal.subs.get l).isSome then some (s, .refused .alreadySubscribed, .nothing)
      else
        let x := s.journal.newSubscriber fromOldest
        some (s.modJournal fun j => j.setSub l (some x), s.journal.subscribeReply x, .nothing)

/-- Check 2 of R137: after the acknowledged position and before the cursor. -/
def Journal.mayAck (j : Journal) (x : Subscriber) (seq : Nat) : Bool :=
  decide (j.distance x.acked < j.distance seq) && decide (j.distance seq < j.distance x.cursor)

/-- An accepted JOURNAL-ACK, before the removal. -/
def Journal.acked (j : Journal) (l : Link) (x : Subscriber) (seq : Nat) : Journal := j.setSub l (some { x with acked := seq })

/-- JOURNAL-ACK (R137). -/
def ackOwner (l : Link) (upTo : BitVec 32) : Owner := fun s =>
  if s.journalEndDue l then none
  else
    match s.journal.subs.get l with
    | none => some (s, .refused .notSubscribed, .nothing)
    | some x =>
      if s.journal.mayAck x upTo.toNat then
        let j := s.journal.acked l x upTo.toNat
        let left := j.removeAcked s.journalNow
        some (s.modJournal fun _ => left, .ack upTo.toNat j.removable left.oldest, .nothing)
      else some (s, .refused .badValue, .nothing)

/-- The record after a rewind (R138). -/
def Subscriber.rewound (x : Subscriber) : Subscriber := { x with cursor := wrap32 (x.acked + 1), inFlight := none }

/-- JOURNAL-REWIND (R138). -/
def rewindOwner (l : Link) : Owner := fun s =>
  if s.journalEndDue l then none
  else
    match s.journal.subs.get l with
    | none => some (s, .refused .notSubscribed, .nothing)
    | some x => some (s.modJournal fun j => j.setSub l (some x.rewound), .rewind x.rewound.cursor, .nothing)

/-- A subscriber record is removed (R139): against the record that remains, or into history mode. -/
def Journal.unsubscribe (j : Journal) (l : Link) (now : Nat) : Journal :=
  let left := j.setSub l none
  if left.subscribed then left.removeAcked now else left

/-- The number of entries that leaving removes (R139); 0 when no record remains. -/
def Journal.leavingRemoves (j : Journal) (l : Link) : Nat := (j.setSub l none).removable

/-- JOURNAL-UNSUBSCRIBE (R139). -/
def unsubscribeOwner (l : Link) : Owner := fun s =>
  if s.journalEndDue l then none
  else
    match s.journal.subs.get l with
    | none => some (s, .refused .notSubscribed, .nothing)
    | some _ => some (s.modJournal fun j => j.unsubscribe l s.journalNow, .unsubscribe (s.journal.leavingRemoves l), .nothing)

/-! ## Frames (R136) and session ends (R140) -/

/-- The outstanding count of a subscriber (R134). -/
def Journal.outstanding (j : Journal) (x : Subscriber) : Nat := j.distance x.cursor - j.distance x.acked - 1

/-- The number of entries the next frame holds; 0 when the journal gives nothing (R136). -/
def Journal.frameSize (j : Journal) (x : Subscriber) : Nat :=
  if x.inFlight.isNone && decide (j.distance x.cursor ≤ j.entries.length) && decide (j.outstanding x < Config.journalCredit) then
    min Config.frameEntries (min (j.entries.length + 1 - j.distance x.cursor) (Config.journalCredit - j.outstanding x))
  else 0

/-- The entries of the next frame (R136). -/
def Journal.frameEntries (j : Journal) (x : Subscriber) : List Entry :=
  (j.entries.drop (j.distance x.cursor - 1)).take (j.frameSize x)

/-- A link's next hand-off to the journal taken off the way. -/
def State.dropJournalLinkIn (s : State) (l : Link) : State :=
  s.modWires fun w => { w with journalLinkIn := w.journalLinkIn.set l (w.journalLinkIn.get l).tail }

/-- The journal has no frame for the transmitter that asks (R136). -/
def declineFrame (l : Link) (s : State) : State := s.modLink l fun k => { k with tx := .declined }

/-- The journal gives the transmitter that asks a frame, and records it as in flight (R136). The frame goes at the rate that is to be taken
between frames, if one waits (R157). -/
def giveFrame (l : Link) (x : Subscriber) (s : State) : State :=
  (s.modJournal fun j => j.setSub l (some { x with inFlight := some (x.cursor, j.frameSize x) })).modLink l fun k =>
    k.takeDueRate.startFrame (.journalData x.cursor (s.journal.frameEntries x))

/-- The journal answers a frame request (R136). -/
def journalFrameRequest (l : Link) (s : State) : State :=
  match s.wires.journalLinkIn.get l with
  | .frameRequest :: _ =>
    let s1 := s.dropJournalLinkIn l
    match s.journal.subs.get l with
    | none => declineFrame l s1
    | some x => if s.journal.frameSize x = 0 then declineFrame l s1 else giveFrame l x s1
  | _ => s

/-- The record after a frame's completion (R136). -/
def Subscriber.completed (x : Subscriber) : Subscriber :=
  match x.inFlight with
  | some (first, k) => { x with cursor := wrap32 (first + k), inFlight := none }
  | none => x

/-- The journal takes a frame's completion (R136). -/
def journalFrameCompletion (l : Link) (s : State) : State :=
  match s.wires.journalLinkIn.get l with
  | .completion :: _ => (s.dropJournalLinkIn l).modJournal fun j => j.setSub l ((j.subs.get l).map Subscriber.completed)
  | _ => s

/-- The journal takes the end of a link's session (R140). -/
def journalTakeSessionEnd (l : Link) (s : State) : State :=
  match s.wires.journalLinkIn.get l with
  | .sessionEnd :: _ =>
    (s.dropJournalLinkIn l).modJournal fun j => if (j.subs.get l).isSome then j.unsubscribe l s.journalNow else j
  | _ => s

/-! ## The rows -/

/-- JOURNAL_TAKE_SAMPLE (R128). -/
def execJournalTakeSample : State → Host.Outcome State Fault Refusal := unlessHeld journalTakeSample

/-- JOURNAL_RUN_START (R129). -/
def execJournalRunStart : State → Host.Outcome State Fault Refusal := unlessHeld journalRunStart

/-- JOURNAL_RUN_STOP (R129). -/
def execJournalRunStop : State → Host.Outcome State Fault Refusal := unlessHeld journalRunStop

/-- JOURNAL_TAKE_TRIGGER_ENTRY (R130). -/
def execJournalTakeTriggerEntry (g : EntryGiver) : State → Host.Outcome State Fault Refusal := unlessHeld (journalTakeTriggerEntry g)

/-- JOURNAL_SUBSCRIBE (R135). -/
def execJournalSubscribe (l : Link) (seq position : Byte) : State → Host.Outcome State Fault Refusal :=
  unlessHeld (commandRow l seq (.journalSubscribe position) (subscribeOwner l position))

/-- JOURNAL_ACK (R137). -/
def execJournalAck (l : Link) (seq : Byte) (upTo : BitVec 32) : State → Host.Outcome State Fault Refusal :=
  unlessHeld (commandRow l seq (.journalAck upTo) (ackOwner l upTo))

/-- JOURNAL_REWIND (R138). -/
def execJournalRewind (l : Link) (seq : Byte) : State → Host.Outcome State Fault Refusal :=
  unlessHeld (commandRow l seq .journalRewind (rewindOwner l))

/-- JOURNAL_UNSUBSCRIBE (R139). -/
def execJournalUnsubscribe (l : Link) (seq : Byte) : State → Host.Outcome State Fault Refusal :=
  unlessHeld (commandRow l seq .journalUnsubscribe (unsubscribeOwner l))

/-- JOURNAL_TAKE_SESSION_END (R140). -/
def execJournalTakeSessionEnd (l : Link) : State → Host.Outcome State Fault Refusal := unlessHeld (journalTakeSessionEnd l)

/-- JOURNAL_FRAME_REQUEST (R136). -/
def execJournalFrameRequest (l : Link) : State → Host.Outcome State Fault Refusal := unlessHeld (journalFrameRequest l)

/-- JOURNAL_FRAME_COMPLETION (R136). -/
def execJournalFrameCompletion (l : Link) : State → Host.Outcome State Fault Refusal := unlessHeld (journalFrameCompletion l)

end Sys2Proof.Machine
end

