-- ==== Sys2Proof/Machine/ItemStore.lean ====
section
/-! DEFINITION. The items: their identifiers (section 9.1), their value forms (Table 11-9), GET (R154) and SET (R155, R157, R172). -/

namespace Sys2Proof.Machine

/-! ## Identifiers -/

/-- The items of the table in section 9.1. -/
inductive ItemId where
  | tickPeriod
  | lineEnable
  | lineLag
  | autoSlots
  | autoHoldoff
  | alertWidth
  | supplyMonitor
  | supplyLossTicks
  | supplyReturnTicks
  | sessionTimeout
  | linkRate (l : Link)
  | epochLabel
  | slotWindow (i : Fin 8)
  | profile (p : Fin 4)
  | channel (c : Fin 48)
  | ident
  | bootEpoch
  | runState
  | newestTick
  | runStartTick
  | poolFree
  | lineCounts
  | autoCounts
  | linkCounts (l : Link)
  | journalState
  | testState
  deriving DecidableEq, Repr

/-- The identifiers of single items (section 9.1). -/
def ItemId.single (n : Nat) : Option ItemId :=
  match n with
  | 0x0001 => some .tickPeriod
  | 0x0002 => some .lineEnable
  | 0x0003 => some .lineLag
  | 0x0004 => some .autoSlots
  | 0x0005 => some .autoHoldoff
  | 0x0006 => some .alertWidth
  | 0x0007 => some .supplyMonitor
  | 0x0008 => some .supplyLossTicks
  | 0x0009 => some .supplyReturnTicks
  | 0x000A => some .sessionTimeout
  | 0x000B => some (.linkRate .A)
  | 0x000C => some (.linkRate .B)
  | 0x000D => some .epochLabel
  | 0x8000 => some .ident
  | 0x8001 => some .bootEpoch
  | 0x8002 => some .runState
  | 0x8003 => some .newestTick
  | 0x8004 => some .runStartTick
  | 0x8005 => some .poolFree
  | 0x8006 => some .lineCounts
  | 0x8007 => some .autoCounts
  | 0x8008 => some (.linkCounts .A)
  | 0x8009 => some (.linkCounts .B)
  | 0x800A => some .journalState
  | 0x800B => some .testState
  | _ => none

/-- The item an identifier names; none for an unknown identifier (section 9.1). -/
def ItemId.ofId (id : BitVec 16) : Option ItemId :=
  let n := id.toNat
  if h : 0x100 ≤ n ∧ n < 0x108 then some (.slotWindow ⟨n - 0x100, by omega⟩)
  else if h : 0x200 ≤ n ∧ n < 0x204 then some (.profile ⟨n - 0x200, by omega⟩)
  else if h : 0x300 ≤ n ∧ n < 0x330 then some (.channel ⟨n - 0x300, by omega⟩)
  else ItemId.single n

/-- Whether an item is a configuration item, held by the item store; the others are read-only (section 9.1). -/
def ItemId.writable : ItemId → Bool
  | .tickPeriod => true
  | .lineEnable => true
  | .lineLag => true
  | .autoSlots => true
  | .autoHoldoff => true
  | .alertWidth => true
  | .supplyMonitor => true
  | .supplyLossTicks => true
  | .supplyReturnTicks => true
  | .sessionTimeout => true
  | .linkRate _ => true
  | .epochLabel => true
  | .slotWindow _ => true
  | .profile _ => true
  | .channel _ => true
  | .ident => false
  | .bootEpoch => false
  | .runState => false
  | .newestTick => false
  | .runStartTick => false
  | .poolFree => false
  | .lineCounts => false
  | .autoCounts => false
  | .linkCounts _ => false
  | .journalState => false
  | .testState => false

/-- The value length of a configuration item (Table 11-9). -/
def ItemId.size : ItemId → Nat
  | .tickPeriod => 2
  | .lineEnable => 1
  | .lineLag => 1
  | .autoSlots => 1
  | .autoHoldoff => 2
  | .alertWidth => 1
  | .supplyMonitor => 1
  | .supplyLossTicks => 1
  | .supplyReturnTicks => 2
  | .sessionTimeout => 2
  | .linkRate _ => 4
  | .epochLabel => 8
  | .slotWindow _ => 4
  | .profile _ => 6
  | .channel _ => 2
  | .ident => 57
  | .bootEpoch => 2
  | .runState => 5
  | .newestTick => 6
  | .runStartTick => 6
  | .poolFree => 1
  | .lineCounts => 20
  | .autoCounts => 28
  | .linkCounts _ => 61
  | .journalState => 41
  | .testState => 28

/-! ## Value forms (Table 11-9) -/

/-- A channel record's two bytes. -/
def ChannelRecord.bytes (r : ChannelRecord) : List Byte :=
  leBytes 1 ((if r.enabled then 1 else 0) + (if r.invert then 2 else 0) + (if r.journal then 4 else 0) + (if r.alert then 8 else 0)
      + (if r.auto then 16 else 0))
    ++ leBytes 1 r.profile.val

/-- A profile's six bytes. -/
def Profile.bytes (p : Profile) : List Byte :=
  leBytes 1 p.debounce ++ leBytes 1 p.chatterLimit ++ leBytes 2 p.chatterWindow ++ leBytes 2 p.chatterQuiet

/-- A default window's four bytes. -/
def Window.bytes (w : Window) : List Byte := leBytes 2 w.pre ++ leBytes 2 w.post

/-- IDENT's 57 bytes (R159). -/
def identBytes : List Byte :=
  Config.vendorName ++ Config.familyName ++ Config.partName ++ leBytes 1 Config.revision ++ leBytes 4 Config.unitNumber
    ++ Config.capacities.flatMap (leBytes 2)

/-- RUN_STATE's five bytes (R33). -/
def Timebase.bytes (t : Timebase) : List Byte :=
  yesNo t.running ++ leBytes 1 t.stopReason.code ++ yesNo t.limitReached ++ leBytes 2 t.period

/-- LINE_COUNTS' 20 bytes (R63). -/
def TriggerUnit.lineBytes (t : TriggerUnit) : List Byte :=
  leBytes 4 t.lineAccepted ++ leBytes 4 t.lineRefused ++ leBytes 4 t.lineIgnored ++ leBytes 4 t.lineParity ++ leBytes 4 t.lineFraming

/-- AUTO_COUNTS' 28 bytes (R64). -/
def TriggerUnit.autoBytes (t : TriggerUnit) : List Byte :=
  leBytes 4 t.autoAccepted ++ leBytes 4 t.autoMissed ++ leBytes 4 t.autoRefused ++ leBytes 4 t.autoIgnored ++ leBytes 4 t.autoHeldOff
    ++ leBytes 4 t.alertTransitions ++ leBytes 2 t.holdoff ++ leBytes 1 t.alertCountdown ++ yesNo t.alert

/-- A link's LINK_COUNTS: 61 bytes (R177). -/
def LinkState.countBytes (k : LinkState) : List Byte :=
  let c := k.counts
  leBytes 4 c.good ++ leBytes 4 c.crc ++ leBytes 4 c.length ++ leBytes 4 c.gap ++ leBytes 4 c.framing ++ leBytes 4 c.breaks
    ++ leBytes 4 c.overruns ++ leBytes 4 c.replays
    ++ yesNo k.session.isSome ++ leBytes 2 (k.session.getD 0) ++ leBytes 2 k.lastSession
    ++ leBytes 4 c.ends.bye ++ leBytes 4 c.ends.timeout ++ leBytes 4 c.ends.lineBreak ++ leBytes 4 c.ends.rehello ++ leBytes 4 c.ends.reset
    ++ leBytes 4 k.rate.baud

/-- A subscriber's positions in JOURNAL_STATE, zero when it is missing from the set. -/
def subscriberBytes : Option Subscriber → List Byte
  | none => leBytes 8 0
  | some x => leBytes 4 x.acked ++ leBytes 4 x.cursor

/-- JOURNAL_STATE's 41 bytes (R142). -/
def Journal.bytes (j : Journal) : List Byte :=
  leBytes 4 j.oldest ++ leBytes 4 j.newest ++ leBytes 2 j.entries.length ++ leBytes 4 j.lossCount
    ++ leBytes 5 (j.firstLost.getD 0) ++ leBytes 5 (j.lastLost.getD 0)
    ++ leBytes 1 ((if j.subs.a.isSome then 1 else 0) + (if j.subs.b.isSome then 2 else 0))
    ++ subscriberBytes j.subs.a ++ subscriberBytes j.subs.b

/-- The part of TEST_STATE that stands whenever the injector is not IDLE: 21 bytes (R148). DESIGN CHOICE (log 37): of an injected tick above
2^40 − 1 the low 40 bits. -/
def TestRun.bytes (r : TestRun) : List Byte :=
  bitmapBytes r.channels ++ leBytes 2 r.label ++ leBytes 5 r.first ++ leBytes 5 r.last
    ++ slotOrFF (r.trigger.map (·.1)) ++ leBytes 2 ((r.trigger.map (·.2)).getD 0)

/-- TEST_STATE's 28 bytes (R148); absent fields are zero, an absent slot `$FF`. -/
def Injector.bytes (i : Injector) : List Byte :=
  leBytes 1 i.code
    ++ (match i with
        | .idle => leBytes 18 0 ++ (0xFF#8 :: leBytes 8 0)
        | .delay run remaining => run.bytes ++ leBytes 2 remaining ++ leBytes 4 0
        | .injecting run pulse high remaining => run.bytes ++ leBytes 2 0 ++ leBytes 1 pulse ++ yesNo high ++ leBytes 2 remaining)

/-- The stored value of a configuration item in its form; empty for a read-only item, which is not stored. -/
def Items.value (x : Items) : ItemId → List Byte
  | .tickPeriod => leBytes 2 x.tickPeriod
  | .lineEnable => yesNo x.lineEnable
  | .lineLag => leBytes 1 x.lineLag
  | .autoSlots => [x.autoSlots]
  | .autoHoldoff => leBytes 2 x.autoHoldoff
  | .alertWidth => leBytes 1 x.alertWidth
  | .supplyMonitor => leBytes 1 x.supplyMonitor.toNat
  | .supplyLossTicks => leBytes 1 x.supplyLossTicks
  | .supplyReturnTicks => leBytes 2 x.supplyReturnTicks
  | .sessionTimeout => leBytes 2 x.sessionTimeout
  | .linkRate l => leBytes 4 (x.rateOf l).baud
  | .epochLabel => x.epochLabel.toList
  | .slotWindow i => x.windows[i].bytes
  | .profile p => x.profiles[p].bytes
  | .channel c => x.channels[c].bytes
  | .ident => []
  | .bootEpoch => []
  | .runState => []
  | .newestTick => []
  | .runStartTick => []
  | .poolFree => []
  | .lineCounts => []
  | .autoCounts => []
  | .linkCounts _ => []
  | .journalState => []
  | .testState => []

/-- The value an item's GET reports: the stored value, or what the block concerned holds (R154). -/
def State.itemValue (s : State) : ItemId → List Byte
  | .ident => identBytes
  | .bootEpoch => leBytes 2 s.time.bootEpoch
  | .runState => s.time.bytes
  | .newestTick => optTick s.ringNewest
  | .runStartTick => optTick s.time.runStart
  | .poolFree => leBytes 1 s.pool.length
  | .lineCounts => s.trig.lineBytes
  | .autoCounts => s.trig.autoBytes
  | .linkCounts l => (s.links.get l).countBytes
  | .journalState => s.journal.bytes
  | .testState => s.injector.bytes
  | x => s.items.value x

/-! ## GET -/

/-- GET (R154). The journal takes an earlier end of this link's session before it answers for JOURNAL_STATE (log 4). -/
def getOwner (l : Link) (id : BitVec 16) : Owner := fun s =>
  match ItemId.ofId id with
  | none => some (s, .refused .unknownItem, .nothing)
  | some x => if x = .journalState ∧ s.journalEndDue l then none else some (s, .item id (s.itemValue x), .nothing)

/-! ## SET -/

/-- A number in a range. -/
def inRange (n low high : Nat) : Bool := decide (low ≤ n) && decide (n ≤ high)

/-- A channel record from its two bytes (R1); none with a reserved bit set or a profile above 3. -/
def readChannel (b0 b1 : Byte) : Option ChannelRecord :=
  if h : b0.toNat < 32 ∧ b1.toNat < 4 then
    some
      { enabled := b0.getLsbD 0
        invert := b0.getLsbD 1
        profile := ⟨b1.toNat, h.2⟩
        journal := b0.getLsbD 2
        alert := b0.getLsbD 3
        auto := b0.getLsbD 4 }
  else none

/-- The four settings of a profile in range (R2). -/
def Profile.fits (p : Profile) : Bool :=
  inRange p.debounce 1 15 && p.chatterLimit != 1 && decide (1 ≤ p.chatterWindow) && decide (1 ≤ p.chatterQuiet)

/-- A profile from its six bytes (R2). -/
def readProfile (d c w0 w1 q0 q1 : Byte) : Option Profile :=
  let p : Profile :=
    { debounce := d.toNat, chatterLimit := c.toNat, chatterWindow := (u16 w0 w1).toNat, chatterQuiet := (u16 q0 q1).toNat }
  if p.fits then some p else none

/-- A default window from its four bytes (R46). -/
def readWindow (a b c d : Byte) : Option Window :=
  let w : Window := { pre := (u16 a b).toNat, post := (u16 c d).toNat }
  if w.pre ≤ 2047 ∧ w.post ≤ 2047 then some w else none

/-- A value when a condition on it holds. -/
def onlyIf {α : Type} (p : Bool) (x : α) : Option α := if p then some x else none

/-- A value of one byte stored (R155 check 4). -/
def Items.writeByte (x : Items) (b : Byte) : ItemId → Option Items
  | .lineEnable => (readYesNo b).map fun v => { x with lineEnable := v }
  | .lineLag => some { x with lineLag := b.toNat }
  | .autoSlots => some { x with autoSlots := b }
  | .alertWidth => onlyIf (inRange b.toNat 1 255) { x with alertWidth := b.toNat }
  | .supplyMonitor => onlyIf (decide (b.toNat < 64)) { x with supplyMonitor := b.setWidth 6 }
  | .supplyLossTicks => onlyIf (inRange b.toNat 1 255) { x with supplyLossTicks := b.toNat }
  | _ => none

/-- A value of two bytes stored (R155 check 4). -/
def Items.writePair (x : Items) (a b : Byte) : ItemId → Option Items
  | .tickPeriod => onlyIf (inRange (u16 a b).toNat 100 10000) { x with tickPeriod := (u16 a b).toNat }
  | .autoHoldoff => some { x with autoHoldoff := (u16 a b).toNat }
  | .supplyReturnTicks => onlyIf (inRange (u16 a b).toNat 1 65535) { x with supplyReturnTicks := (u16 a b).toNat }
  | .sessionTimeout =>
    onlyIf ((u16 a b).toNat == 0 || inRange (u16 a b).toNat 100 60000) { x with sessionTimeout := (u16 a b).toNat }
  | .channel c => (readChannel a b).map fun r => { x with channels := x.channels.set c r }
  | _ => none

/-- A value of four bytes stored (R155 check 4). -/
def Items.writeFour (x : Items) (a b c d : Byte) : ItemId → Option Items
  | .linkRate l => (Rate.ofBaud (u32 a b c d).toNat).map fun r => x.setRate l r
  | .slotWindow i => (readWindow a b c d).map fun w => { x with windows := x.windows.set i w }
  | _ => none

/-- The items with one replaced by a value of its length, when every field is in range (R155 check 4). -/
def Items.write (x : Items) (id : ItemId) (value : List Byte) : Option Items :=
  match value with
  | [b] => x.writeByte b id
  | [a, b] => x.writePair a b id
  | [a, b, c, d] => x.writeFour a b c d id
  | [d, c, w0, w1, q0, q1] =>
    match id with
    | .profile p => (readProfile d c w0 w1 q0 q1).map fun v => { x with profiles := x.profiles.set p v }
    | _ => none
  | [b0, b1, b2, b3, b4, b5, b6, b7] =>
    match id with
    | .epochLabel => some { x with epochLabel := #v[b0, b1, b2, b3, b4, b5, b6, b7] }
    | _ => none
  | _ => none

/-- Checks 5 and 6 of R155. -/
def State.setRefusal (s : State) (l : Link) : ItemId → Option Result
  | .tickPeriod => if s.time.running then some .notStopped else none
  | .linkRate m => if m ≠ l ∧ s.sessionOpen m then some .busy else none
  | _ => none

/-- The checks of R155 in order: the item and the items as they would stand, or the refusal. -/
def State.checkSet (s : State) (l : Link) (id : BitVec 16) (value : List Byte) : Except Result (ItemId × Items) :=
  match ItemId.ofId id with
  | none => .error .unknownItem
  | some x =>
    if !x.writable then .error .readOnly
    else if value.length ≠ x.size then .error .badLength
    else
      match s.items.write x value with
      | none => .error .badValue
      | some items =>
        match s.setRefusal l x with
        | some code => .error code
        | none => .ok (x, items)

/-- A SET of SESSION_TIMEOUT ends the other link's session when it has counted long enough (R172). The link that carried the SET does not
end (R172; log 35). -/
def endIfOverdue (l : Link) (s : State) : State :=
  if s.items.sessionTimeout ≠ 0 ∧ s.items.sessionTimeout ≤ (s.links.get l).sinceGood then endSession l .timeout s else s

/-- What an accepted SET does beyond storing the value (R157, R172). -/
def afterSet (l : Link) (x : ItemId) (s : State) : State × AfterReply :=
  match x with
  | .linkRate m =>
    if m = l then (s, .takeRate (s.items.rateOf m)) else 
      (s.modLink m fun k => { k with rateDue := some (s.items.rateOf m) }.takeFreeRate, .nothing)
  | .sessionTimeout => (endIfOverdue (otherLink l) s, .nothing)
  | _ => (s, .nothing)

/-- SET (R155). -/
def setOwner (l : Link) (id : BitVec 16) (value : List Byte) : Owner := fun s =>
  match s.checkSet l id value with
  | .error code => some (s, .refused code, .nothing)
  | .ok (x, items) =>
    let done := afterSet l x (s.setItems items)
    some (done.1, .item id (items.value x), done.2)

/-! ## The rows -/

/-- GET (R154). -/
def execGet (l : Link) (seq : Byte) (item : BitVec 16) : State → Host.Outcome State Fault Refusal :=
  unlessHeld (commandRow l seq (.get item) (getOwner l item))

/-- SET (R155 to R157). -/
def execSet (l : Link) (seq : Byte) (item : BitVec 16) (value : List Byte) : State → Host.Outcome State Fault Refusal :=
  unlessHeld (commandRow l seq (.set item value) (setOwner l item value))

end Sys2Proof.Machine
end

