-- ==== Sys2Proof/Machine/Readout.lean ====
section
/-! DEFINITION. The readout units: FETCH (R106 to R108), READY news (R110), the frames of deliveries (R112 to R115), cuts (R77, R117),
RELEASE (R118, R119), and the end of a session (R122). -/

namespace Sys2Proof.Machine

/-! ## FETCH -/

/-- Whether a queue entry is a delivery entry of this slot (R106 check 2). -/
def QueueEntry.delivers (i : Fin 8) : QueueEntry → Bool
  | .delivery j _ _ => j == i
  | _ => false

/-- Whether a delivery entry or the current delivery names the slot (R106 check 2). -/
def Readout.names (q : Readout) (i : Fin 8) : Bool :=
  q.queue.any (QueueEntry.delivers i) || (q.current.map (·.slot)) == some i

/-- The places of the queue in use (R104). -/
def Readout.placesUsed (q : Readout) : Nat := q.queue.length + q.reserved.length

/-- The number of parts of a capture of r records (R115). -/
def partCount (r : Nat) : Nat := ceilDiv r Config.partRecords

/-- The entries ahead of a new entry, the current delivery counted as one (R108). -/
def Readout.ahead (q : Readout) : Nat := q.queue.length + (if q.current.isSome then 1 else 0)

/-- R107's answer that records a pending fetch, and the place reserved for it. -/
def fetchPending (l : Link) (i : Fin 8) (c : Capture) (claim : Bool) (fromPart : Nat) (s : State) : State × ReplyBody :=
  if c.fetch.isSome then (s, .refused .fetchPending)
  else
    (((s.modTable fun t => t.put i (some { c with fetch := some { link := l, claim := claim, fromPart := fromPart } })).modReadout l
        fun q => { q with reserved := q.reserved ++ [(i, c.serial)] }),
      .fetchPending i c.serial c.phase)

/-- R107's answer QUEUED: the slot's new state, and the delivery entry appended. -/
def fetchQueued (l : Link) (i : Fin 8) (c : Capture) (phase : Phase) (fromPart : Nat) (s : State) : State × ReplyBody :=
  (((s.modTable fun t => t.put i (some { c with phase := phase })).modReadout l
      fun q => { q with queue := q.queue ++ [.delivery i c.serial fromPart] }),
    .fetchQueued i c.serial phase c.records.length (partCount c.records.length) (s.readouts.get l).ahead)

/-- The slot table takes a FETCH put to it (R107). -/
def tableTakeFetch (l : Link) (i : Fin 8) (claim : Bool) (fromPart : Nat) (s : State) : State × ReplyBody :=
  match s.slot i with
  | none => (s, .refused .noCapture)
  | some c =>
    match c.phase with
    | .armed => fetchPending l i c claim fromPart s
    | .queued => fetchPending l i c claim fromPart s
    | .extracting => fetchPending l i c claim fromPart s
    | .ready => fetchQueued l i c (if claim then .claimed l else .ready) fromPart s
    | .claimed holder =>
      if claim && holder != l then (s, .refused .claimed) else fetchQueued l i c (.claimed holder) fromPart s

/-- The checks of R106 on the decoded fields. -/
def fetchRefusal (q : Readout) (i : Fin 8) : Option Result :=
  if q.names i then some .alreadyQueued
  else if Config.deliveryPlaces ≤ q.placesUsed then some .busy
  else none

/-- The fields of a FETCH within their ranges (R106 check 1; claim by R180). -/
def readFetch (slot claim fromPart : Byte) : Option (Fin 8 × Bool) :=
  match readSlot slot, readYesNo claim with
  | some i, some c => if fromPart.toNat ≤ 18 then some (i, c) else none
  | _, _ => none

/-- FETCH (R106 to R108). The blocks concerned take an earlier end of this link's session first (log 4), and the readout unit takes the
slot table's earlier hand-offs first (R107; log 5). -/
def fetchOwner (l : Link) (slot claim fromPart : Byte) : Owner := fun s =>
  if s.wires.tableEnds.get l ≠ 0 ∨ s.wires.readoutEnds.get l ≠ 0 then none
  else
    match readFetch slot claim fromPart with
    | none => some (s, .refused .badValue, .nothing)
    | some (i, c) =>
      match fetchRefusal (s.readouts.get l) i with
      | some code => some (s, .refused code, .nothing)
      | none =>
        if s.wires.readoutIn.get l ≠ [] then none
        else
          let taken := tableTakeFetch l i c fromPart.toNat s
          some (taken.1, taken.2, .nothing)

/-! ## READY news (R110) -/

/-- An applied fetch of this link turns its reserved place into a delivery entry (R110). -/
def Readout.takeApplied (q : Readout) (l : Link) (i : Fin 8) (serial : Nat) (applied : Option PendingFetch) : Readout :=
  match applied with
  | some f =>
    if f.link = l ∧ (i, serial) ∈ q.reserved then
      { q with reserved := q.reserved.erase (i, serial), queue := q.queue ++ [.delivery i serial f.fromPart] }
    else q
  | none => q

/-- Whether READY news is announced on this link (R110); the set is then changed only while the session is OPEN (log 28). -/
def announces (l : Link) (source : Source) (applied : Option PendingFetch) : Bool :=
  (match source with
    | .linkA => l == .A
    | .linkB => l == .B
    | _ => true)
  || (applied.map (·.link)) == some l

/-- The readout unit's next hand-off from the slot table taken off the way. -/
def State.dropReadoutIn (s : State) (l : Link) : State :=
  s.modWires fun w => { w with readoutIn := w.readoutIn.set l (w.readoutIn.get l).tail }

/-- A readout unit takes READY news (R110), or news that a slot is READY again (R121). -/
def readoutTakeReady (l : Link) (s : State) : State :=
  match s.wires.readoutIn.get l with
  | .ready i serial source applied :: _ =>
    let s1 := (s.dropReadoutIn l).modReadout l fun q => q.takeApplied l i serial applied
    if announces l source applied then s1.notify l fun n => n.addSlot i else s1
  | .readyAgain i :: _ => (s.dropReadoutIn l).notify l fun n => n.addSlot i
  | _ => s

/-! ## Cuts (R77, R117) -/

/-- A delivery entry of the slot and serial becomes a cut ending in its place. -/
def QueueEntry.cut (i : Fin 8) (serial : Nat) : QueueEntry → QueueEntry
  | .delivery j n k => if j = i ∧ n = serial then .cutEnding i serial else .delivery j n k
  | x => x

/-- The current delivery of the slot and serial goes straight to CAPTURE-END CUT. -/
def Delivery.cut (i : Fin 8) (serial : Nat) (d : Delivery) : Delivery :=
  if d.slot = i ∧ d.serial = serial then { d with next := .ending .cut } else d

/-- What a release does to a readout unit (R117). -/
def Readout.takeRelease (q : Readout) (i : Fin 8) (serial : Nat) : Readout :=
  { q with queue := q.queue.map (QueueEntry.cut i serial), current := q.current.map (Delivery.cut i serial) }

/-- What an abort does to a readout unit (R77): the cuts of a release, and a reserved place becomes an aborted ending at the tail. -/
def Readout.takeAbort (q : Readout) (i : Fin 8) (serial : Nat) : Readout :=
  let cut := q.takeRelease i serial
  if (i, serial) ∈ q.reserved then
    { cut with reserved := q.reserved.erase (i, serial), queue := cut.queue ++ [.abortedEnding i serial] }
  else cut

/-- A readout unit takes an abort (R77). -/
def readoutTakeAbort (l : Link) (s : State) : State :=
  match s.wires.readoutIn.get l with
  | .abort i serial :: _ => (s.dropReadoutIn l).modReadout l fun q => q.takeAbort i serial
  | _ => s

/-- A readout unit takes a release (R117). -/
def readoutTakeRelease (l : Link) (s : State) : State :=
  match s.wires.readoutIn.get l with
  | .release i serial :: _ => (s.dropReadoutIn l).modReadout l fun q => q.takeRelease i serial
  | _ => s

/-! ## Delivery frames (R112 to R115) -/

/-- The capture a delivery names, if its slot still holds the serial and is READY or CLAIMED (R113). -/
def State.delivered (s : State) (i : Fin 8) (serial : Nat) : Option Capture :=
  (s.slot i).filter fun c =>
    c.serial == serial
      && (match c.phase with
          | .ready => true
          | .claimed _ => true
          | _ => false)

/-- What stands next after the parts before k: part k, or the ending COMPLETE (R115). -/
def nextAfter (k parts : Nat) : NextFrame := if k < parts then .part k else .ending .complete

/-- The records of part k (R115). -/
def partOf (records : List CaptureRecord) (k : Nat) : List CaptureRecord := (records.drop (k * Config.partRecords)).take Config.partRecords

/-- The CAPTURE-HEAD of a delivery (R114). -/
def State.headOf (s : State) (i : Fin 8) (c : Capture) (fromPart : Nat) : Head where
  slot := i
  capture := c
  partCount := partCount c.records.length
  fromPart := fromPart
  bootEpoch := s.time.bootEpoch
  label := s.items.epochLabel

/-- The readout unit with its current delivery replaced. -/
def State.setCurrent (s : State) (l : Link) (d : Option Delivery) : State := s.modReadout l fun q => { q with current := d }

/-- The next frame of the current delivery (R112 to R115). -/
def giveCurrent (l : Link) (d : Delivery) (s : State) : State × FrameBody :=
  match d.next with
  | .ending status => (s.setCurrent l none, .captureEnd d.slot d.serial status d.sent)
  | .part k =>
    match s.delivered d.slot d.serial with
    | none => (s.setCurrent l none, .captureEnd d.slot d.serial .cut d.sent)
    | some c =>
      (s.setCurrent l (some { d with next := nextAfter (k + 1) (partCount c.records.length), sent := d.sent + 1 }),
        .capturePart d.slot d.serial k (partOf c.records k))

/-- The entry at the queue's head (R112, R113). -/
def giveEntry (l : Link) (x : QueueEntry) (s : State) : State × FrameBody :=
  match x with
  | .cutEnding i serial => (s, .captureEnd i serial .cut 0)
  | .abortedEnding i serial => (s, .captureEnd i serial .aborted 0)
  | .delivery i serial fromPart =>
    match s.delivered i serial with
    | none => (s, .captureEnd i serial .cut 0)
    | some c =>
      (s.setCurrent l (some
        { slot := i
          serial := serial
          fromPart := fromPart
          next := nextAfter fromPart (partCount c.records.length)
          sent := 0 }),
        .captureHead (s.headOf i c fromPart))

/-- The readout unit's answer when the transmitter asks for a delivery frame (R112); an earlier end of the session is taken first
(R173), so that nothing is given until it is. -/
def giveDelivery (l : Link) (s : State) : Option (State × FrameBody) :=
  if s.wires.readoutEnds.get l ≠ 0 then none
  else
    match (s.readouts.get l).current with
    | some d => some (giveCurrent l d s)
    | none =>
      match (s.readouts.get l).queue with
      | [] => none
      | x :: rest => some (giveEntry l x (s.modReadout l fun q => { q with queue := rest }))

/-! ## RELEASE (R118, R119) -/

/-- An accepted RELEASE (R119). -/
def acceptRelease (i : Fin 8) (c : Capture) (s : State) : State := (emptySlot i c s).tellReadouts (.release i c.serial)

/-- The checks of R118 on a slot number in range. -/
def releaseRefusal (l : Link) (c : Capture) (serial : Nat) : Option Result :=
  if c.serial ≠ serial then some .stale
  else if c.phase = .claimed l then none
  else some .notHolder

/-- RELEASE (R118, R119). The slot table takes an earlier end of this link's session first (log 4). -/
def releaseOwner (l : Link) (slot : Byte) (serial : BitVec 16) : Owner := fun s =>
  if s.wires.tableEnds.get l ≠ 0 then none
  else
    match readSlot slot with
    | none => some (s, .refused .badValue, .nothing)
    | some i =>
      if serial = 0#16 then some (s, .refused .badValue, .nothing)
      else
        match s.slot i with
        | none => some (s, .refused .noCapture, .nothing)
        | some c =>
          match releaseRefusal l c serial.toNat with
          | some code => some (s, .refused code, .nothing)
          | none => some (acceptRelease i c s, .release i c.serial c.blocks.length, .nothing)

/-! ## The end of a session (R122) -/

/-- A readout unit takes the end of its link's session (R122). -/
def readoutTakeSessionEnd (l : Link) (s : State) : State :=
  if s.wires.readoutEnds.get l = 0 then s
  else
    (s.modReadout l fun _ => Readout.reset).modWires fun w => { w with readoutEnds := w.readoutEnds.set l (w.readoutEnds.get l - 1) }

/-! ## The rows -/

/-- FETCH (R106 to R108). -/
def execFetch (l : Link) (seq slot claim fromPart : Byte) : State → Host.Outcome State Fault Refusal :=
  unlessHeld (commandRow l seq (.fetch slot claim fromPart) (fetchOwner l slot claim fromPart))

/-- RELEASE (R118, R119). -/
def execRelease (l : Link) (seq slot : Byte) (serial : BitVec 16) : State → Host.Outcome State Fault Refusal :=
  unlessHeld (commandRow l seq (.release slot serial) (releaseOwner l slot serial))

/-- READOUT_TAKE_READY (R110). -/
def execReadoutTakeReady (l : Link) : State → Host.Outcome State Fault Refusal := unlessHeld (readoutTakeReady l)

/-- READOUT_TAKE_ABORT (R77). -/
def execReadoutTakeAbort (l : Link) : State → Host.Outcome State Fault Refusal := unlessHeld (readoutTakeAbort l)

/-- READOUT_TAKE_RELEASE (R117). -/
def execReadoutTakeRelease (l : Link) : State → Host.Outcome State Fault Refusal := unlessHeld (readoutTakeRelease l)

/-- READOUT_TAKE_SESSION_END (R122). -/
def execReadoutTakeSessionEnd (l : Link) : State → Host.Outcome State Fault Refusal := unlessHeld (readoutTakeSessionEnd l)

end Sys2Proof.Machine
end

