-- ==== Sys2Proof/Machine/Links.lean ====
section
/-! DEFINITION. The links: the receiver (R165 to R167), HELLO, BYE and PING (R170, R171), the session timeout (R172), the transmitter (R174
to R176) and the taking up of a rate (R157). -/

namespace Sys2Proof.Machine

/-! ## The receiver -/

/-- What the receiver does with a character: its next state, the frame it completes, and whether it counts a length error (R165). -/
structure Received where
  next : Receiver
  frame : Option RawFrame
  tooLong : Bool
  deriving DecidableEq, Repr

/-- The receiver goes on inside or between frames. -/
def Received.go (r : Receiver) : Received := { next := r, frame := none, tooLong := false }

/-- BODY until LEN bytes are held, then CHECK (R165). -/
def bodyOrCheck (len seq kind : Byte) (bytes : List Byte) : Receiver :=
  if bytes.length < len.toNat then .body len seq kind bytes else .check len seq kind bytes none

/-- One character at the receiver (R165). -/
def Receiver.take (r : Receiver) (c : Byte) : Received :=
  match r with
  | .hunt => .go (if c = 0xC3#8 then .awaitLen else .hunt)
  | .awaitLen => if c.toNat ≤ 240 then .go (.awaitSeq c) else { next := .hunt, frame := none, tooLong := true }
  | .awaitSeq len => .go (.awaitKind len c)
  | .awaitKind len seq => .go (bodyOrCheck len seq c [])
  | .body len seq kind bytes => .go (bodyOrCheck len seq kind (bytes ++ [c]))
  | .check len seq kind bytes none => .go (.check len seq kind bytes (some c))
  | .check len seq kind bytes (some high) =>
    { next := .hunt
      frame := some { len := len, seq := seq, kind := kind, bytes := bytes, crcHigh := high, crcLow := c }
      tooLong := false }

/-- A character with a good stop bit arrives (R165); the line has then been high (R167). -/
def LinkState.takeCharacter (k : LinkState) (c : Byte) : LinkState :=
  let r := k.receiver.take c
  { k with
    receiver := r.next
    stretch := .high
    complete := k.complete ++ r.frame.toList
    counts := if r.tooLong then { k.counts with length := wrap32 (k.counts.length + 1) } else k.counts }

/-- The gap inside a frame passes 32 byte times (R165). -/
def LinkState.gapTimeout (k : LinkState) : LinkState :=
  if k.receiver = .hunt then k
  else { k with receiver := .hunt, counts := { k.counts with gap := wrap32 (k.counts.gap + 1) } }

/-- A character with a low stop bit (R167). One stretch of low line counts once: `wasHigh` says that the line has been high since the
last low stop bit (log 20). -/
def LinkState.framingError (k : LinkState) (wasHigh : Bool) : LinkState :=
  if k.stretch = .high ∨ wasHigh then
    { k with receiver := .hunt, stretch := .counted, counts := { k.counts with framing := wrap32 (k.counts.framing + 1) } }
  else k

/-- The line has been low for 20 byte times (R167): a break, counted once for a stretch of low line (log 20). -/
def LinkState.breaks (k : LinkState) (wasHigh : Bool) : Bool := k.stretch != .inBreak || wasHigh

/-- The receiver's part of a break (R167). -/
def LinkState.takeBreak (k : LinkState) : LinkState :=
  { k with receiver := .hunt, stretch := .inBreak, counts := { k.counts with breaks := wrap32 (k.counts.breaks + 1) } }

/-- A break (R167). -/
def lineBreaks (l : Link) (wasHigh : Bool) (s : State) : State :=
  if (s.links.get l).breaks wasHigh then endSession l .lineBreak (s.modLink l LinkState.takeBreak) else s

/-- Whether a complete frame's check is right (R166, R178). -/
def RawFrame.checks (f : RawFrame) : Bool := crcOf (f.len :: f.seq :: f.kind :: f.bytes) == f.crcHigh ++ f.crcLow

/-- A complete frame as the handler is given it. -/
def RawFrame.good (f : RawFrame) : GoodFrame := { seq := f.seq, kind := f.kind, reading := readFrame f.kind f.bytes }

/-- A frame whose check is wrong (R166). -/
def badFrame (l : Link) (s : State) : State :=
  (s.modLink l fun k => { k with counts := { k.counts with crc := wrap32 (k.counts.crc + 1) } }).notify l fun n => { n with rxError := true }

/-- The oldest complete frame is judged (R166). -/
def frameReceived (l : Link) (s : State) : State :=
  match (s.links.get l).complete with
  | [] => s
  | f :: rest =>
    let s1 := s.modLink l fun k => { k with complete := rest }
    if f.checks then goodFrame l f.good s1 else badFrame l s1

/-! ## HELLO, BYE, PING -/

/-- A session is opened with the next session number (R170). -/
def LinkState.openSession (k : LinkState) : LinkState :=
  { k with session := some (next65535 k.lastSession), lastSession := next65535 k.lastSession, byeMark := false, sinceGood := 0 }

/-- HELLO (R170). -/
def helloOwner (l : Link) : Owner := fun s =>
  let s1 := (endSession l .rehello s).modLink l LinkState.openSession
  some (s1, .hello l s1.time.bootEpoch (s1.links.get l).lastSession s1.items.epochLabel, .nothing)

/-- The number of a link's session; 0 when CLOSED, which no command that asks for it meets (R168 case 5). -/
def State.sessionNumber (s : State) (l : Link) : Nat := ((s.links.get l).session).getD 0

/-- BYE (R171). -/
def byeOwner (l : Link) : Owner := fun s =>
  some (s.modLink l fun k => { k with byeMark := true }, .session (s.sessionNumber l), .byeEnd (s.sessionNumber l))

/-- PING (R171). -/
def pingOwner (l : Link) : Owner := fun s => some (s, .session (s.sessionNumber l), .nothing)

/-! ## The session timeout -/

/-- The time since the last good frame has reached SESSION_TIMEOUT (R172). -/
def State.timedOut (s : State) (l : Link) : Bool :=
  s.sessionOpen l && s.items.sessionTimeout != 0 && decide (s.items.sessionTimeout ≤ (s.links.get l).sinceGood)

/-- SESSION_TIMEOUT (R172). -/
def sessionTimeout (l : Link) (s : State) : State := if s.timedOut l then endSession l .timeout s else s

/-! ## The transmitter -/

/-- Whether a link's transmitter may choose: no frame on the line, and no answer awaited from the journal (R175; log 17). -/
def LinkState.mayChoose (k : LinkState) : Bool :=
  match k.tx with
  | .sending _ => false
  | .asking => false
  | _ => true

/-- The asking link of a DEVICE-RESET that is due does not choose before it is carried out (R175; log 24). -/
def State.resetDueOn (s : State) (l : Link) : Bool :=
  match s.device with
  | .pending m _ .due => m == l
  | _ => false

/-- The transmitter asks the journal for a frame (R136, R175). -/
def askJournal (l : Link) (s : State) : State :=
  (s.modLink l fun k => { k with tx := .asking }).modWires fun w =>
    { w with journalLinkIn := w.journalLinkIn.set l (w.journalLinkIn.get l ++ [.frameRequest]) }

/-- The transmitter asks the readout unit for a delivery frame (R112, R175). -/
def askReadout (l : Link) (s : State) : State :=
  match giveDelivery l s with
  | some (t, b) => t.modLink l fun k => k.startFrame b
  | none => s.modLink l fun k => { k with tx := .idle }

/-- The last two sources of R175: the journal, and once it has declined the readout unit. -/
def chooseData (l : Link) (s : State) : State :=
  match (s.links.get l).tx with
  | .declined => askReadout l s
  | _ => askJournal l s

/-- The choice of the next frame, in the order of R175. -/
def chooseFrame (l : Link) (s : State) : State :=
  let k := s.links.get l
  match k.pendingEnd with
  | some (reason, n) => s.modLink l fun k => { k with pendingEnd := none }.startFrame (.sessionEnd reason n)
  | none =>
    match k.replies with
    | r :: rest => s.modLink l fun k => { k with replies := rest }.startFrame (.reply r)
    | [] =>
      if k.notices.isEmpty then chooseData l s
      else s.modLink l fun k => { k with notices := Notices.empty }.startFrame (.notice k.notices)

/-- TRANSMIT_CHOOSE (R175). A rate that waits to be taken up is taken first, since the link is between frames (R157; log 25). -/
def transmitChoose (l : Link) (s : State) : State :=
  if (s.links.get l).mayChoose && !s.resetDueOn l then chooseFrame l (s.modLink l LinkState.takeDueRate) else s

/-- A reset condition whose awaited frame has been sent (R162). -/
def ResetCondition.sent (d : ResetCondition) : ResetCondition :=
  match d with
  | .normal => .normal
  | .pending m keep _ => .pending m keep .due

/-- The device waits for this link's SESSION-END of this number (R162). -/
def ResetCondition.awaitsEnd (d : ResetCondition) (l : Link) (n : Nat) : Bool :=
  match d with
  | .pending m _ (.sessionEnd k) => m == l && k == n
  | _ => false

/-- The device waits for this link's REPLY (R162). -/
def ResetCondition.awaitsReply (d : ResetCondition) (l : Link) : Bool :=
  match d with
  | .pending m _ .reply => m == l
  | _ => false

/-- What a REPLY calls for once sent (R175). -/
def afterReply (l : Link) (r : Reply) (s : State) : State :=
  match r.after with
  | .nothing => s
  | .byeEnd n => if (s.links.get l).session = some n ∧ (s.links.get l).byeMark then endSession l .bye s else s
  | .takeRate x => s.modLink l fun k => k.takeRate x
  | .carryOutReset => if s.device.awaitsReply l then s.setDevice s.device.sent else s

/-- What a frame calls for once sent (R175). -/
def afterFrame (l : Link) (b : FrameBody) (s : State) : State :=
  match b with
  | .journalData _ _ => s.modWires fun w => { w with journalLinkIn := w.journalLinkIn.set l (w.journalLinkIn.get l ++ [.completion]) }
  | .reply r => afterReply l r s
  | .sessionEnd _ n => if s.device.awaitsEnd l n then s.setDevice s.device.sent else s
  | _ => s

/-- FRAME_SENT (R175). -/
def frameSent (l : Link) (s : State) : State :=
  match (s.links.get l).tx with
  | .sending x => afterFrame l x.body (s.modLink l fun k => { k with tx := .idle })
  | _ => s

/-- LINK_RATE_TAKE_UP (R157). -/
def linkRateTakeUp (l : Link) (s : State) : State :=
  s.modLink l LinkState.takeFreeRate

/-! ## The rows -/

/-- HELLO (R170). -/
def execHello (l : Link) (seq : Byte) : State → Host.Outcome State Fault Refusal :=
  unlessHeld (commandRow l seq .hello (helloOwner l))

/-- BYE (R171). -/
def execBye (l : Link) (seq : Byte) : State → Host.Outcome State Fault Refusal := unlessHeld (commandRow l seq .bye (byeOwner l))

/-- PING (R171). -/
def execPing (l : Link) (seq : Byte) : State → Host.Outcome State Fault Refusal := unlessHeld (commandRow l seq .ping (pingOwner l))

/-- CHARACTER_RECEIVED (R165). -/
def execCharacterReceived (l : Link) (c : Byte) : State → Host.Outcome State Fault Refusal :=
  unlessHeld fun s => s.modLink l fun k => k.takeCharacter c

/-- FRAME_RECEIVED (R166, R168). -/
def execFrameReceived (l : Link) : State → Host.Outcome State Fault Refusal := unlessHeld (frameReceived l)

/-- GAP_TIMEOUT (R165). -/
def execGapTimeout (l : Link) : State → Host.Outcome State Fault Refusal := unlessHeld fun s => s.modLink l LinkState.gapTimeout

/-- CHARACTER_FRAMING_ERROR (R167). -/
def execCharacterFramingError (l : Link) (wasHigh : Bool) : State → Host.Outcome State Fault Refusal :=
  unlessHeld fun s => s.modLink l fun k => k.framingError wasHigh

/-- BREAK (R167). -/
def execLineBreak (l : Link) (wasHigh : Bool) : State → Host.Outcome State Fault Refusal := unlessHeld (lineBreaks l wasHigh)

/-- SESSION_TIMEOUT (R172). -/
def execSessionTimeout (l : Link) : State → Host.Outcome State Fault Refusal := unlessHeld (sessionTimeout l)

/-- TRANSMIT_CHOOSE (R175). -/
def execTransmitChoose (l : Link) : State → Host.Outcome State Fault Refusal := unlessHeld (transmitChoose l)

/-- FRAME_SENT (R175). -/
def execFrameSent (l : Link) : State → Host.Outcome State Fault Refusal := unlessHeld (frameSent l)

/-- LINK_RATE_TAKE_UP (R157). -/
def execLinkRateTakeUp (l : Link) : State → Host.Outcome State Fault Refusal := unlessHeld (linkRateTakeUp l)

end Sys2Proof.Machine
end

