-- ==== Sys2Proof/Machine/Snapshot.lean ====
section
/-! DEFINITION. SNAPSHOT: what the input conditioner holds after the last sample it has worked on (R25). -/

namespace Sys2Proof.Machine

/-- One bit of every channel's working state, as a bitmap. -/
def Conditioner.bitmap (c : Conditioner) (f : Channel → Bool) : Bitmap := Bitmap.ofChannels fun i => f c.channels[i]

/-- The values of a SNAPSHOT (R25): a channel's raw value after a sample is its previous raw value, stored at stage 6 (R7). -/
def Conditioner.snapshot (c : Conditioner) (tick : Nat) : SnapshotValues where
  tick := tick
  levels := c.bitmap (·.level)
  raws := c.bitmap (·.prevRaw)
  chatter := c.bitmap (·.holds.chatter)
  supply := c.bitmap (·.holds.supply)
  disabled := c.bitmap (·.holds.disabled)

/-- SNAPSHOT (R25). -/
def snapshotOwner : Owner := fun s => some (s, .snapshot (s.cond.lastTick.map s.cond.snapshot), .nothing)

/-- SNAPSHOT (R25). -/
def execSnapshot (l : Link) (seq : Byte) : State → Host.Outcome State Fault Refusal :=
  unlessHeld (commandRow l seq .snapshot snapshotOwner)

end Sys2Proof.Machine
end

