-- ==== Sys2Proof/Machine/Timebase.lean ====
section
/-! DEFINITION. The timebase: START and STOP (R29 to R31), the limit stop (R32), and what the conditioner and the ring do within a START
(R22, R38). -/

namespace Sys2Proof.Machine

/-! ## START -/

/-- What START does to a channel's working state (R22); its level and previous raw stay. -/
def Channel.atStart (ch : Channel) : Channel :=
  { ch with holds := Holds.empty, debounce := 0, window := none, quiet := none, injected := false }

/-- The conditioner takes a START (R22). SNAPSHOT then reports no sample (R25). -/
def Conditioner.atStart (c : Conditioner) : Conditioner where
  channels := Vector.ofFn fun i : Fin 48 => c.channels[i].atStart
  monitors := Vector.replicate 6 Monitor.reset
  firstDue := true
  lastTick := none

/-- Whether a capture still waits on the ring (R74). -/
def Capture.waitsOnRing (c : Capture) : Bool :=
  match c.phase with
  | .armed => true
  | .queued => true
  | .extracting => true
  | .ready => false
  | .claimed _ => false

/-- The slot table's answer to the timebase (R74). -/
def State.capturesWait (s : State) : Bool :=
  s.table.slots.toList.any fun x =>
    match x with
    | some c => c.waitsOnRing
    | none => false

/-- The START's one happening at the timebase (R30), with what the ring (R38) and the conditioner (R22) do within it. Each of these two
takes its earlier hand-offs first (log 15): a sample still on its way to the ring is appended, which fixes the reads that waited for it,
and is emptied with the rest, and a stop still on its way to the injector makes it IDLE. -/
def acceptStart (s : State) : State :=
  let first := s.time.tick + 1
  let s1 := (ringTakeStart s).modTime fun t =>
    { t with running := true, runStart := some first, stopReason := .none, period := s.items.tickPeriod }
  let s2 := s1.setCond s.cond.atStart
  let s3 := s2.setInjector (if s.wires.injectorStop then .idle else s.injector)
  s3.modWires fun w => { w with injectorStop := false, journalIn := w.journalIn ++ [.runStart first] }

/-- START (R29, R30). -/
def startOwner : Owner := fun s =>
  if s.time.running then some (s, .refused .notStopped, .nothing)
  else if s.time.limitReached then some (s, .refused .limit, .nothing)
  else if s.capturesWait then some (s, .refused .busy, .nothing)
  else some (acceptStart s, .start (s.time.tick + 1), .nothing)

/-! ## Stops -/

/-- The stop handed to the slot table, the injector, the trigger unit and the journal (R31). The conditioner's part is to keep its
state (R24). -/
def handStop (reason : StopReason) (s : State) : State :=
  s.modWires fun w =>
    { w with
      slotIn := w.slotIn ++ [.stop reason s.time.tick]
      injectorStop := true
      trigIn := w.trigIn ++ [.stop reason s.time.tick]
      journalIn := w.journalIn ++ [.stop reason s.time.tick] }

/-- An accepted STOP (R31). -/
def acceptStop (s : State) : State :=
  handStop .stop (s.modTime fun t =>
    { t with
      running := false
      stopReason := .stop
      limitReached := t.limitReached || decide (t.tick = Config.tickMax) })

/-- The last tick of the run, absent when the run made no sample (R31). -/
def State.lastTickOfRun (s : State) : Option Nat :=
  match s.time.runStart with
  | some r => if r ≤ s.time.tick then some s.time.tick else none
  | none => none

/-- STOP (R31). -/
def stopOwner : Owner := fun s =>
  if s.time.running then some (acceptStop s, .stop s.lastTickOfRun, .nothing)
  else some (s, .refused .notRunning, .nothing)

/-- The limit stop (R32): RUNNING, the last tick made, and the next sample due. -/
def limitStop (s : State) : State :=
  if s.time.running && s.time.tick == Config.tickMax then
    handStop .limit (s.modTime fun t => { t with running := false, stopReason := .limit, limitReached := true })
  else s

/-! ## The rows -/

/-- START (R29, R30). -/
def execStart (l : Link) (seq : Byte) : State → Host.Outcome State Fault Refusal :=
  unlessHeld (commandRow l seq .start startOwner)

/-- STOP (R31). -/
def execStop (l : Link) (seq : Byte) : State → Host.Outcome State Fault Refusal :=
  unlessHeld (commandRow l seq .stop stopOwner)

/-- TICK_LIMIT_STOP (R32). -/
def execTickLimitStop : State → Host.Outcome State Fault Refusal := unlessHeld limitStop

end Sys2Proof.Machine
end

