-- ==== Sys2Proof/Machine/Triggers.lean ====
section
/-! DEFINITION. The trigger unit: TRIGGER (R51), the trigger line (R52 to R54), the alert and auto rules at a sample (R56 to R60), and the
stop (R61). -/

namespace Sys2Proof.Machine

/-! ## TRIGGER -/

/-- The source of a link's TRIGGER (R51). -/
def linkSource : Link → Source
  | .A => .linkA
  | .B => .linkB

/-- The slot request of a TRIGGER's slot byte: `$FF` asks for ANY (R51). -/
def readRequest (slot : Byte) : SlotRequest := if slot = 0xFF#8 then .any else .numbered slot.toNat

/-- The reference of a TRIGGER's kind and tick (R51, Table 11-6). -/
def readReference (kind : Byte) (tick : BitVec 40) : Reference :=
  match kind.toNat with
  | 0 => .absolute tick.toNat
  | 1 => .now
  | 2 => .lagged
  | _ => .unknown

/-- The offer a TRIGGER makes (R51). -/
def linkOffer (l : Link) (slot kind : Byte) (tick : BitVec 40) (pre post label : BitVec 16) : Offer where
  source := linkSource l
  request := readRequest slot
  reference := readReference kind tick
  pre := readWindowSide pre
  post := readWindowSide post
  label := label.toNat
  test := false

/-- The trigger unit hands the journal an entry (R49, R54, R58). -/
def State.triggerEntry (s : State) (kind : EntryKind) (test : Bool) : State :=
  s.modWires fun w => { w with triggerEntries := w.triggerEntries ++ [{ kind := kind, test := test }] }

/-- TRIGGER (R51). -/
def triggerOwner (o : Offer) : Owner := fun s =>
  match takeOffer o s with
  | (t, .accepted i serial r a b) => some (t.triggerEntry (.trigger i serial o.source) o.test, .trigger i serial r a b, .nothing)
  | (t, .refused code _) => some (t, .refused code, .nothing)

/-! ## The trigger line -/

/-- A fall of TRIGIN and what the line does by half a bit time (R52). After a low stop bit no fall counts until the line has been high
(R53). `wasHigh` says that the line has been high since the last word; a line that is not still low is high (log 21). -/
def TriggerUnit.startBit (t : TriggerUnit) (stillLow wasHigh : Bool) : TriggerUnit :=
  if t.receiving then t
  else
    let blocked := t.awaitHigh && !wasHigh
    { t with receiving := stillLow && !blocked, awaitHigh := blocked && stillLow }

/-- The slot a word names: its bits 0 to 2 after the start bit, least significant first (R52). -/
def wordSlot (bits : BitVec 13) : Fin 8 := (bits.extractLsb' 0 3).toFin

/-- The label of a word: the eight bits after the slot (R52). -/
def wordLabel (bits : BitVec 13) : Nat := (bits.extractLsb' 3 8).toNat

/-- The parity of a word is right: slot, label and parity hold an odd number of ones (R52). -/
def wordParityGood (bits : BitVec 13) : Bool := (List.range 12).foldl (fun odd k => odd ^^ bits.getLsbD k) false

/-- The stop bit of a word (R52). -/
def wordStop (bits : BitVec 13) : Bool := bits.getLsbD 12

/-- The offer of a good word (R53): the slot it names, LAGGED, the default window, and its label (R43). -/
def lineOffer (bits : BitVec 13) : Offer where
  source := .line
  request := .numbered (wordSlot bits).val
  reference := .lagged
  pre := none
  post := none
  label := wordLabel bits
  test := false

/-- A word completes and is judged (R53); the receiver returns to IDLE (R52). -/
def completeWord (bits : BitVec 13) (s : State) : State :=
  if s.trig.receiving then
    if !wordStop bits then
      s.modTrig fun t => { t with receiving := false, awaitHigh := true, lineFraming := wrap32 (t.lineFraming + 1) }
    else if !wordParityGood bits then s.modTrig fun t => { t with receiving := false, lineParity := wrap32 (t.lineParity + 1) }
    else if !s.items.lineEnable || !s.time.running then
      s.modTrig fun t => { t with receiving := false, lineIgnored := wrap32 (t.lineIgnored + 1) }
    else
      (s.modTrig fun t => { t with receiving := false }).modWires fun w => { w with lineOffers := w.lineOffers ++ [lineOffer bits] }
  else s

/-- The slot a LINE offer names (R54). -/
def Offer.namedSlot (o : Offer) : Option (Fin 8) :=
  match o.request with
  | .numbered n => if h : n < 8 then some ⟨n, h⟩ else none
  | _ => none

/-- What the trigger unit makes of the answer to a LINE offer (R54). -/
def lineAnswered (o : Offer) (a : Answer) (s : State) : State :=
  match a with
  | .accepted i serial _ _ _ =>
    (s.modTrig fun t => { t with lineAccepted := wrap32 (t.lineAccepted + 1) }).triggerEntry (.trigger i serial .line) false
  | .refused .notRunning _ => s.modTrig fun t => { t with lineIgnored := wrap32 (t.lineIgnored + 1) }
  | .refused _ _ =>
    (s.modTrig fun t => { t with lineRefused := wrap32 (t.lineRefused + 1) }).triggerEntry (.triggerRefused .line o.namedSlot) false

/-- The trigger unit takes the next answer to a LINE offer (R54). -/
def takeLineAnswer (s : State) : State :=
  match s.wires.lineAnswers with
  | [] => s
  | (o, a) :: rest => lineAnswered o a (s.modWires fun w => { w with lineAnswers := rest })

/-! ## The alert and auto rules -/

/-- Whether a change is a field transition (R56). -/
def Change.isTransition (c : Change) : Bool := c.kind == .rise || c.kind == .fall

/-- The alert rule (R59, R60). -/
def alertRule (c : Change) (tick : Nat) (s : State) : State :=
  (s.modTrig fun t =>
      { t with
        alert := true
        alertCountdown := s.items.alertWidth
        alertTransitions := wrap32 (t.alertTransitions + 1) }).notifyBoth
    fun n => n.addAlert c.channel tick

/-- The offer of an auto attempt (R57). -/
def autoOffer (c : Change) (tick : Nat) : Offer where
  source := .auto
  request := .auto
  reference := .absolute tick
  pre := none
  post := none
  label := c.channel.val
  test := c.test

/-- What the trigger unit makes of the answer to an AUTO offer (R58). -/
def autoAnswered (c : Change) (tick : Nat) (a : Answer) (s : State) : State :=
  match a with
  | .accepted i serial _ _ _ =>
    (s.modTrig fun t => { t with autoAccepted := wrap32 (t.autoAccepted + 1) }).triggerEntry (.trigger i serial .auto) c.test
  | .refused .noSlot _ =>
    ((s.modTrig fun t => { t with autoMissed := wrap32 (t.autoMissed + 1) }).triggerEntry (.triggerRefused .auto none) c.test).modWires
      fun w => { w with triggerFaults := w.triggerFaults ++ [{ kind := .autoMissed c.channel, tick := tick }] }
  | .refused .notRunning _ => s.modTrig fun t => { t with autoIgnored := wrap32 (t.autoIgnored + 1) }
  | .refused _ i =>
    (s.modTrig fun t => { t with autoRefused := wrap32 (t.autoRefused + 1) }).triggerEntry (.triggerRefused .auto i) c.test

/-- The auto rule (R57): held off, or an attempt whose answer is taken before the next transition. -/
def autoRule (c : Change) (tick : Nat) (s : State) : State :=
  if s.trig.holdoff ≠ 0 then s.modTrig fun t => { t with autoHeldOff := wrap32 (t.autoHeldOff + 1) }
  else
    let offered := takeOffer (autoOffer c tick) (s.modTrig fun t => { t with holdoff := s.items.autoHoldoff })
    autoAnswered c tick offered.2 offered.1

/-- One change of the sample: a field transition has the alert rule applied, then the auto rule (R56 item 3). -/
def transitionRules (tick : Nat) (s : State) (c : Change) : State :=
  if c.isTransition then
    let s1 := if c.alert then alertRule c tick s else s
    if c.auto then autoRule c tick s1 else s1
  else s

/-- The countdowns at the start of a sample (R56 items 1 and 2). -/
def TriggerUnit.countDown (t : TriggerUnit) : TriggerUnit :=
  { t with holdoff := t.holdoff - 1, alertCountdown := t.alertCountdown - 1 }

/-- ALERT at the end of a sample (R56 item 4). -/
def TriggerUnit.settle (t : TriggerUnit) : TriggerUnit := if t.alertCountdown = 0 then { t with alert := false } else t

/-- The trigger unit works through a conditioned sample (R56). -/
def trigUnitSample (c : Conditioned) (s : State) : State :=
  (c.changes.foldl (transitionRules c.tick) (s.modTrig TriggerUnit.countDown)).modTrig TriggerUnit.settle

/-- The trigger unit takes the next conditioned sample handed to it (R56). -/
def trigUnitTakeSample (s : State) : State :=
  match s.wires.trigIn with
  | .sample c :: rest => trigUnitSample c (s.modWires fun w => { w with trigIn := rest })
  | _ => s

/-- The alert countdown is running and the next sample handed to the trigger unit brings it to 0 (R56). -/
def State.alertExpires (s : State) : Bool :=
  decide (s.trig.alertCountdown ≠ 0) && decide ((trigUnitTakeSample s).trig.alertCountdown = 0)

/-- What a stop does to the trigger unit (R61). -/
def TriggerUnit.atStop (t : TriggerUnit) : TriggerUnit := { t with alert := false, alertCountdown := 0, holdoff := 0 }

/-- The trigger unit takes the stop handed to it (R61). -/
def trigUnitTakeStop (s : State) : State :=
  match s.wires.trigIn with
  | .stop _ _ :: rest => (s.modTrig TriggerUnit.atStop).modWires fun w => { w with trigIn := rest }
  | _ => s

/-! ## The rows -/

/-- TRIGGER (R51). -/
def execTrigger (l : Link) (seq slot kind : Byte) (tick : BitVec 40) (pre post label : BitVec 16) :
    State → Host.Outcome State Fault Refusal :=
  unlessHeld (commandRow l seq (.trigger slot kind tick pre post label) (triggerOwner (linkOffer l slot kind tick pre post label)))

/-- LINE_START_BIT (R52). -/
def execLineStartBit (stillLow wasHigh : Bool) : State → Host.Outcome State Fault Refusal :=
  unlessHeld fun s => s.modTrig fun t => t.startBit stillLow wasHigh

/-- LINE_WORD (R53). -/
def execLineWord (bits : BitVec 13) : State → Host.Outcome State Fault Refusal := unlessHeld (completeWord bits)

/-- LINE_ANSWER (R54). -/
def execLineAnswer : State → Host.Outcome State Fault Refusal := unlessHeld takeLineAnswer

/-- TRIGGER_UNIT_TAKE_SAMPLE (R56). -/
def execTriggerUnitTakeSample : State → Host.Outcome State Fault Refusal := unlessHeld trigUnitTakeSample

/-- ALERT_COUNTDOWN_EXPIRY (R56): the sample at which the alert countdown reaches 0 and ALERT is released (log 6). -/
def execAlertCountdownExpiry : State → Host.Outcome State Fault Refusal :=
  unlessHeld fun s => if s.alertExpires then trigUnitTakeSample s else s

/-- TRIGGER_UNIT_TAKE_STOP (R61). -/
def execTriggerUnitTakeStop : State → Host.Outcome State Fault Refusal := unlessHeld trigUnitTakeStop

end Sys2Proof.Machine
end

