-- ==== Sys2Proof/Machine/Dispatch.lean ====
section
/-! DEFINITION. One arm for each happening of spec/opcode_table.json, in the table's order. -/

namespace Sys2Proof.Machine

/-- The effect of a happening on everything but the queue. -/
def exec (i : Instr) (s : State) : Host.Outcome State Fault Refusal :=
  match i with
  | .hello l seq => Sys2Proof.Machine.execHello l seq s
  | .bye l seq => Sys2Proof.Machine.execBye l seq s
  | .ping l seq => Sys2Proof.Machine.execPing l seq s
  | .get l seq item => Sys2Proof.Machine.execGet l seq item s
  | .set l seq item value => Sys2Proof.Machine.execSet l seq item value s
  | .deviceReset l seq keepConfig => Sys2Proof.Machine.execDeviceReset l seq keepConfig s
  | .start l seq => Sys2Proof.Machine.execStart l seq s
  | .stop l seq => Sys2Proof.Machine.execStop l seq s
  | .snapshot l seq => Sys2Proof.Machine.execSnapshot l seq s
  | .trigger l seq slot kind tick pre post label => Sys2Proof.Machine.execTrigger l seq slot kind tick pre post label s
  | .abort l seq slot force => Sys2Proof.Machine.execAbort l seq slot force s
  | .slotStatus l seq slot => Sys2Proof.Machine.execSlotStatus l seq slot s
  | .fetch l seq slot claim fromPart => Sys2Proof.Machine.execFetch l seq slot claim fromPart s
  | .release l seq slot serial => Sys2Proof.Machine.execRelease l seq slot serial s
  | .journalSubscribe l seq position => Sys2Proof.Machine.execJournalSubscribe l seq position s
  | .journalAck l seq upTo => Sys2Proof.Machine.execJournalAck l seq upTo s
  | .journalRewind l seq => Sys2Proof.Machine.execJournalRewind l seq s
  | .journalUnsubscribe l seq => Sys2Proof.Machine.execJournalUnsubscribe l seq s
  | .test l seq channels delay width gap count slot trigDelay label => Sys2Proof.Machine.execTest l seq channels delay width gap count slot trigDelay label s
  | .testCancel l seq => Sys2Proof.Machine.execTestCancel l seq s
  | .faultsRead l seq => Sys2Proof.Machine.execFaultsRead l seq s
  | .faultsClear l seq upTo => Sys2Proof.Machine.execFaultsClear l seq upTo s
  | .sample pins senses => Sys2Proof.Machine.execSample pins senses s
  | .debounceComplete c pins senses => Sys2Proof.Machine.execDebounceComplete c pins senses s
  | .chatterWindowExpiry c pins senses => Sys2Proof.Machine.execChatterWindowExpiry c pins senses s
  | .quietCountdownExpiry c pins senses => Sys2Proof.Machine.execQuietCountdownExpiry c pins senses s
  | .supplyLost g pins senses => Sys2Proof.Machine.execSupplyLost g pins senses s
  | .supplyBack g pins senses => Sys2Proof.Machine.execSupplyBack g pins senses s
  | .ringAppend => Sys2Proof.Machine.execRingAppend s
  | .journalTakeSample => Sys2Proof.Machine.execJournalTakeSample s
  | .triggerUnitTakeSample => Sys2Proof.Machine.execTriggerUnitTakeSample s
  | .alertCountdownExpiry => Sys2Proof.Machine.execAlertCountdownExpiry s
  | .slotTableTakeSample => Sys2Proof.Machine.execSlotTableTakeSample s
  | .faultRecord r => Sys2Proof.Machine.execFaultRecord r s
  | .tickLimitStop => Sys2Proof.Machine.execTickLimitStop s
  | .journalRunStart => Sys2Proof.Machine.execJournalRunStart s
  | .journalRunStop => Sys2Proof.Machine.execJournalRunStop s
  | .slotTableTakeStop => Sys2Proof.Machine.execSlotTableTakeStop s
  | .triggerUnitTakeStop => Sys2Proof.Machine.execTriggerUnitTakeStop s
  | .injectorTakeStop => Sys2Proof.Machine.execInjectorTakeStop s
  | .rowDamage tick levels held test syndrome => Sys2Proof.Machine.execRowDamage tick levels held test syndrome s
  | .lineWord bits => Sys2Proof.Machine.execLineWord bits s
  | .lineAnswer => Sys2Proof.Machine.execLineAnswer s
  | .slotTableOffer => Sys2Proof.Machine.execSlotTableOffer s
  | .journalTakeTriggerEntry g => Sys2Proof.Machine.execJournalTakeTriggerEntry g s
  | .testDelayExpiry pins senses => Sys2Proof.Machine.execTestDelayExpiry pins senses s
  | .testPhaseExpiry pins senses => Sys2Proof.Machine.execTestPhaseExpiry pins senses s
  | .engineTakeSlot => Sys2Proof.Machine.execEngineTakeSlot s
  | .extractionBegin e => Sys2Proof.Machine.execExtractionBegin e s
  | .extractionRow e => Sys2Proof.Machine.execExtractionRow e s
  | .blockRequest e pick => Sys2Proof.Machine.execBlockRequest e pick s
  | .blockAnswer e => Sys2Proof.Machine.execBlockAnswer e s
  | .extractionEnd e => Sys2Proof.Machine.execExtractionEnd e s
  | .extractionEndTaken e => Sys2Proof.Machine.execExtractionEndTaken e s
  | .engineDrop e => Sys2Proof.Machine.execEngineDrop e s
  | .lateEngineAnswer e a => Sys2Proof.Machine.execLateEngineAnswer e a s
  | .poolReturn g => Sys2Proof.Machine.execPoolReturn g s
  | .readoutTakeReady l => Sys2Proof.Machine.execReadoutTakeReady l s
  | .readoutTakeAbort l => Sys2Proof.Machine.execReadoutTakeAbort l s
  | .readoutTakeRelease l => Sys2Proof.Machine.execReadoutTakeRelease l s
  | .slotTableTakeSessionEnd l => Sys2Proof.Machine.execSlotTableTakeSessionEnd l s
  | .readoutTakeSessionEnd l => Sys2Proof.Machine.execReadoutTakeSessionEnd l s
  | .journalTakeSessionEnd l => Sys2Proof.Machine.execJournalTakeSessionEnd l s
  | .frameReceived l => Sys2Proof.Machine.execFrameReceived l s
  | .gapTimeout l => Sys2Proof.Machine.execGapTimeout l s
  | .characterFramingError l wasHigh => Sys2Proof.Machine.execCharacterFramingError l wasHigh s
  | .lineBreak l wasHigh => Sys2Proof.Machine.execLineBreak l wasHigh s
  | .sessionTimeout l => Sys2Proof.Machine.execSessionTimeout l s
  | .transmitChoose l => Sys2Proof.Machine.execTransmitChoose l s
  | .journalFrameRequest l => Sys2Proof.Machine.execJournalFrameRequest l s
  | .frameSent l => Sys2Proof.Machine.execFrameSent l s
  | .journalFrameCompletion l => Sys2Proof.Machine.execJournalFrameCompletion l s
  | .linkRateTakeUp l => Sys2Proof.Machine.execLinkRateTakeUp l s
  | .resetCarriedOut => Sys2Proof.Machine.execResetCarriedOut s
  | .hardReset => Sys2Proof.Machine.execHardReset s
  | .characterReceived l c => Sys2Proof.Machine.execCharacterReceived l c s
  | .lineStartBit stillLow wasHigh => Sys2Proof.Machine.execLineStartBit stillLow wasHigh s
  | .resetPinAsserted => Sys2Proof.Machine.execResetPinAsserted s

end Sys2Proof.Machine
end

