-- ==== Sys2Proof/Machine/Step.lean ====
section
/-! DEFINITION. One step of the block: the command at the front of the queue, or one ms when none waits. -/

namespace Sys2Proof.Machine

/-- DESIGN CHOICE (log 2). One step: the front command runs with the queue's rest; on an empty queue one ms passes (R172). -/
def step (s : State) : Host.Outcome State Fault Refusal :=
  match s.pending with
  | [] => .next (millisecond s)
  | c :: rest => exec c (s.setPending rest)

/-- The command that a word spells, put at the front of the queue. The table gives no row bits, so no word spells one (log 33). -/
def State.withFetchWord (s : State) (nbits w : Nat) : State :=
  match decodeTableWord nbits w with
  | some c => s.setPending (c :: s.pending)
  | none => s

end Sys2Proof.Machine
end

