-- ==== Sys2Proof/Safety.lean ====
section
/-! DEFINITION. The laws the manual states of each block, as claims use them, and what it means that a link's handler is ready to execute a
command and that a command has been answered. -/

namespace Sys2Proof.Machine

/-! ## Runs of numbers -/

/-- Each number's successor is the number after it in the list, and the last one's is `stop`. -/
def runsTo (next : Nat → Nat) : List Nat → Nat → Prop
  | [], _ => True
  | a :: rest, stop => next a = rest.headD stop ∧ runsTo next rest stop

/-- The seq after another (R126). -/
def nextSeq32 (n : Nat) : Nat := wrap32 (n + 1)

/-! ## Items (R1, R2, R12, R27, R46, R55, R57, R59, R157) -/

/-- The settings of a profile lie in their ranges (R2). -/
structure ProfileLaw (p : Profile) : Prop where
  debounce : 1 ≤ p.debounce ∧ p.debounce ≤ 15
  limit : p.chatterLimit ≠ 1 ∧ p.chatterLimit ≤ 255
  window : 1 ≤ p.chatterWindow ∧ p.chatterWindow ≤ 65535
  quiet : 1 ≤ p.chatterQuiet ∧ p.chatterQuiet ≤ 65535

/-- Every configuration item lies in its range. -/
structure ItemsLaw (x : Items) : Prop where
  period : 100 ≤ x.tickPeriod ∧ x.tickPeriod ≤ 10000
  lag : x.lineLag ≤ 255
  holdoff : x.autoHoldoff ≤ 65535
  width : 1 ≤ x.alertWidth ∧ x.alertWidth ≤ 255
  loss : 1 ≤ x.supplyLossTicks ∧ x.supplyLossTicks ≤ 255
  back : 1 ≤ x.supplyReturnTicks ∧ x.supplyReturnTicks ≤ 65535
  timeout : x.sessionTimeout = 0 ∨ (100 ≤ x.sessionTimeout ∧ x.sessionTimeout ≤ 60000)
  windows : ∀ i : Fin 8, x.windows[i].pre ≤ 2047 ∧ x.windows[i].post ≤ 2047
  profiles : ∀ p : Fin 4, ProfileLaw x.profiles[p]

/-! ## Conditioner (R3, R13) -/

/-- The ranges of R3 for one channel, with the profile it uses: the debounce count rests below the profile's; an open window's count rests
below the chatter limit; the quiet countdown is present exactly with CHATTER; and a held channel has a debounce count of 0 and no open window
(R17). -/
structure ChannelLaw (ch : Channel) : Prop where
  profile : ProfileLaw ch.profile
  debounce : ch.debounce < ch.profile.debounce
  window : ∀ w, ch.window = some w → 1 ≤ w.remaining ∧ w.remaining ≤ ch.profile.chatterWindow ∧ 1 ≤ w.count ∧ w.count < ch.profile.chatterLimit
  quiet : ch.quiet.isSome = ch.holds.chatter
  countdown : ∀ q, ch.quiet = some q → 1 ≤ q ∧ q ≤ 65535
  held : ch.holds.any = true → ch.debounce = 0 ∧ ch.window = none

/-- The ranges of R13 for one monitor. -/
structure MonitorLaw (m : Monitor) : Prop where
  absent : m.absent ≤ 254
  present : m.present ≤ 65534

/-- Every channel and every monitor lies in its ranges; and while the next sample is the first of a run (or no run has begun), no channel has a
debounce count above 0, an open window or a quiet countdown (R3, R22). -/
structure CondLaw (c : Conditioner) : Prop where
  channels : ∀ i : Fin 48, ChannelLaw c.channels[i]
  monitors : ∀ g : Fin 6, MonitorLaw c.monitors[g]
  first : c.firstDue = true → ∀ i : Fin 48, c.channels[i].debounce = 0 ∧ c.channels[i].window = none ∧ c.channels[i].quiet = none

/-! ## Test injector (R143) -/

/-- The ranges of a test run's fields (R143). -/
structure RunLaw (r : TestRun) : Prop where
  channels : r.channels ≠ 0#48
  width : 1 ≤ r.width ∧ r.width ≤ 4095
  gap : 1 ≤ r.gap ∧ r.gap ≤ 4095
  count : 1 ≤ r.count ∧ r.count ≤ 255

/-- The ranges of the injector's state (R143); a low phase stands between two pulses (R146). -/
def InjectorLaw : Injector → Prop
  | .idle => True
  | .delay run remaining => RunLaw run ∧ 1 ≤ remaining ∧ remaining ≤ 65535
  | .injecting run pulse high remaining =>
    RunLaw run ∧ 1 ≤ pulse ∧ pulse ≤ run.count ∧ (high = false → pulse < run.count) ∧ 1 ≤ remaining
      ∧ remaining ≤ (if high then run.width else run.gap)

/-! ## Timebase and ring (R26, R37, R39) -/

/-- The ticks of the rows held, and then of the samples on their way to the ring. -/
def sampleTicks (ring : List Row) (ringIn : List Conditioned) : List Nat := ring.map (·.tick) ++ ringIn.map (·.tick)

/-- The law of the ring (R37) with R39's oldest available tick: at most 4096 rows, and at most one sample on its way, each being appended
before the next arrives (log 36); with it, consecutive ticks that end at the tick counter; none older than the run start tick; and while
fewer than 4096 rows are held they begin at the run start tick. -/
structure RingLaw (t : Timebase) (ring : List Row) (ringIn : List Conditioned) : Prop where
  size : ring.length ≤ 4096
  oneWaits : ringIn.length ≤ 1
  consecutive : runsTo (· + 1) (sampleTicks ring ringIn) (t.tick + 1)
  inRun : ∀ r, t.runStart = some r → ∀ k ∈ sampleTicks ring ringIn, r ≤ k
  begins : ring.length < 4096 → ∀ r, t.runStart = some r → (sampleTicks ring ringIn).headD (t.tick + 1) = r
  unstarted : t.runStart = none → t.running = false ∧ sampleTicks ring ringIn = []

/-- The ranges of the timebase (R26), with the limit (R31, R32): at the last tick, recording runs or limit reached is yes. -/
structure TimeLaw (t : Timebase) : Prop where
  tick : t.tick ≤ Config.tickMax
  runStart : ∀ r, t.runStart = some r → 1 ≤ r ∧ r ≤ Config.tickMax ∧ r ≤ t.tick + 1
  limit : t.tick = Config.tickMax → t.running = true ∨ t.limitReached = true
  period : 100 ≤ t.period ∧ t.period ≤ 10000
  epoch : t.bootEpoch ≤ 65535

/-! ## Trigger unit (R56, R59, R61) -/

/-- ALERT is asserted exactly while the alert countdown is above 0 (R59), and the countdowns are in range (R56). -/
structure AlertLaw (t : TriggerUnit) : Prop where
  alert : t.alert = true ↔ 0 < t.alertCountdown
  countdown : t.alertCountdown ≤ 255
  holdoff : t.holdoff ≤ 65535

/-! ## Slot table (R68, R70, R84) -/

/-- Whether a slot is QUEUED. -/
def SlotTable.isQueued (t : SlotTable) (i : Fin 8) : Prop := ∃ c, t.slots[i] = some c ∧ c.phase = .queued

/-- The acceptance list holds exactly the slots that are not EMPTY, each once (R70); the extraction queue exactly those that are QUEUED, each
once (R84); serials are non-zero and pairwise distinct (R68). -/
structure SlotLaw (t : SlotTable) : Prop where
  accepted : ∀ i, i ∈ t.acceptance ↔ t.slots[i] ≠ none
  acceptedOnce : t.acceptance.Nodup
  queued : ∀ i, i ∈ t.queue ↔ t.isQueued i
  queuedOnce : t.queue.Nodup
  serialRange : ∀ (i : Fin 8) (c : Capture), t.slots[i] = some c → 1 ≤ c.serial ∧ c.serial ≤ 65535
  serialOnce : ∀ (i j : Fin 8) (c d : Capture), t.slots[i] = some c → t.slots[j] = some d → c.serial = d.serial → i = j
  nextSerial : 1 ≤ t.nextSerial ∧ t.nextSerial ≤ 65535

/-! ## Pool (R96, R100) -/

/-- Whether a slot's capture is complete: READY or CLAIMED. -/
def Phase.finished : Phase → Bool
  | .ready => true
  | .claimed _ => true
  | _ => false

/-- The law of blocks held by slots (R96) and of the number of records (R90): none before the capture is complete, then at most 1024 records
in exactly ceil(r / 32) blocks. -/
structure CaptureLaw (c : Capture) : Prop where
  before : c.phase.finished = false → c.records = [] ∧ c.blocks = []
  after : c.phase.finished = true → c.records.length ≤ 1024 ∧ c.blocks.length = ceilDiv c.records.length 32

/-- The blocks an engine holds (R85). -/
def EngineState.blocks : EngineState → List Nat
  | .working w => w.blocks
  | .ending w => w.blocks
  | _ => []

/-- An engine holds at least the blocks its records fill, and exactly those once it has trimmed (R93, R95). -/
def EngineLaw : EngineState → Prop
  | .working w => w.records.length ≤ 1024 ∧ ceilDiv w.records.length 32 ≤ w.blocks.length
  | .ending w => w.records.length ≤ 1024 ∧ w.blocks.length = ceilDiv w.records.length 32
  | _ => True

/-- The blocks granted and not yet received. -/
def blocksGranted (answers : List BlockAnswer) : List Nat := answers.filterMap (·.block)

/-- The blocks a slot holds. -/
def SlotTable.blocksOf (t : SlotTable) (i : Fin 8) : List Nat := ((t.slots[i]).map (·.blocks)).getD []

/-- Every block of the part, place by place: free, held by the slots and the engines, granted and not yet received, handed back and not yet taken
(R100). -/
def State.allBlocks (s : State) : List Nat :=
  s.pool ++ (List.finRange 8).flatMap s.table.blocksOf ++ s.engines.x0.blocks ++ s.engines.x1.blocks
    ++ blocksGranted s.wires.blockAnswers.x0 ++ blocksGranted s.wires.blockAnswers.x1
    ++ s.wires.tableReturns.flatten ++ s.wires.engineReturns.x0.flatten ++ s.wires.engineReturns.x1.flatten

/-- The law of the pool (R100) with the law of blocks held by slots (R96): the blocks of all places are 0 … 127, each in one place only and
once; every capture and both engines hold what their laws say. -/
def PoolLaw (s : State) : Prop :=
  s.allBlocks.Perm (List.range 128) ∧ (∀ i c, s.slot i = some c → CaptureLaw c) ∧ EngineLaw s.engines.x0 ∧ EngineLaw s.engines.x1

/-! ## Readout units (R104) -/

/-- The entries of the queue and the reserved places together use at most 8 places (R104). -/
def ReadoutLaw (q : Readout) : Prop := q.queue.length + q.reserved.length ≤ 8

/-! ## Claims (R105) -/

/-- Link `l`'s session is OPEN, or its end is on its way to the slot table. -/
def State.sessionStands (s : State) (l : Link) : Prop := (s.links.get l).session ≠ none ∨ s.wires.tableEnds.get l ≠ 0

/-- Every claim holder's and every pending fetch's session is OPEN, or its end is on its way to the slot table; a pending fetch is present only
while the slot is ARMED, QUEUED or EXTRACTING (R105). -/
def ClaimLaw (s : State) : Prop :=
  (∀ i c l, s.slot i = some c → c.phase = .claimed l → s.sessionStands l)
    ∧ ∀ i c f, s.slot i = some c → c.fetch = some f → s.sessionStands f.link ∧ c.phase.finished = false

/-! ## Journal (R125, R134) -/

/-- The law of one subscriber: oldest − 1 ≤ acked < cursor ≤ newest + 1, at most 64 outstanding, and a frame in flight starts at the cursor and
stays within what is held and within the credit (R134, R136). -/
structure SubscriberLaw (j : Journal) (x : Subscriber) : Prop where
  acked : x.acked < 4294967296
  cursor : x.cursor < 4294967296
  order : j.distance x.acked < j.distance x.cursor
  held : j.distance x.cursor ≤ j.entries.length + 1
  credit : j.distance x.cursor - j.distance x.acked - 1 ≤ 64
  flight : ∀ f k, x.inFlight = some (f, k) →
    f = x.cursor ∧ 1 ≤ k ∧ k ≤ 16 ∧ j.distance x.cursor + k ≤ j.entries.length + 1
      ∧ j.distance x.cursor - j.distance x.acked - 1 + k ≤ 64

/-- The law of the journal (R134), with the ranges of R125: the lost ticks are present exactly while the loss count is above 0, and it is above 0
only while 1024 entries are held (R132). -/
structure JournalLaw (j : Journal) : Prop where
  size : j.entries.length ≤ 1024
  next : j.nextSeq < 4294967296
  consecutive : runsTo nextSeq32 (j.entries.map (·.seq)) j.nextSeq
  seqs : ∀ e ∈ j.entries, e.seq < 4294967296
  loss : j.lossCount ≤ 4294967295
  lost : j.firstLost.isSome = decide (j.lossCount ≠ 0) ∧ j.lastLost.isSome = decide (j.lossCount ≠ 0)
  full : j.lossCount ≠ 0 → j.entries.length = 1024
  subscribers : ∀ l x, j.subs.get l = some x → SubscriberLaw j x

/-! ## Fault log (R149) -/

/-- The law of the fault log (R149): at most 4 records, consecutive seqs in 1 … 65535, a lost count of 0 whenever the log is empty. -/
structure FaultLaw (f : FaultLog) : Prop where
  size : f.records.length ≤ 4
  consecutive : runsTo next65535 (f.records.map (·.seq)) f.nextSeq
  seqs : ∀ r ∈ f.records, 1 ≤ r.seq ∧ r.seq ≤ 65535
  next : 1 ≤ f.nextSeq ∧ f.nextSeq ≤ 65535
  lost : f.lost ≤ 255 ∧ (f.records = [] → f.lost = 0)

/-! ## Links (R164, R169, R174) -/

/-- The law of a link: at most 4 REPLYs, and room for the answer of the command in hand (R168, R169); a frame waits only while
a command is in hand, and reads as a command of its own KIND (R168); the BYE mark set, the cache valid and
notices pending only while the session is OPEN (R164, R169, R174); the session's number is the last one given (R170). -/
structure LinkLaw (k : LinkState) : Prop where
  replies : k.replies.length ≤ 4
  room : k.inHand.isSome = true → k.replies.length ≤ 3
  inOrder : k.waiting ≠ [] → k.inHand.isSome = true
  readAs : ∀ f ∈ k.waiting, ∀ c, f.reading = .command c → c.kind = f.kind
  mark : k.byeMark = true → k.session.isSome = true
  cache : k.cache.isSome = true → k.session.isSome = true
  notices : k.notices.isEmpty = false → k.session.isSome = true
  number : ∀ n, k.session = some n → n = k.lastSession ∧ 1 ≤ n
  last : k.lastSession ≤ 65535
  command : ∀ x, k.inHand = some x → x.command = .hello ∨ k.session.isSome = true
  outSeq : k.outSeq ≤ 255

/-! ## A command at a link -/

/-- The link, SEQ and command of a row that is a host command; none for the other rows. -/
def hostCommand : Instr → Option (Link × Byte × Command)
  | .hello l seq => some (l, seq, .hello)
  | .bye l seq => some (l, seq, .bye)
  | .ping l seq => some (l, seq, .ping)
  | .get l seq item => some (l, seq, .get item)
  | .set l seq item value => some (l, seq, .set item value)
  | .deviceReset l seq keep => some (l, seq, .deviceReset keep)
  | .start l seq => some (l, seq, .start)
  | .stop l seq => some (l, seq, .stop)
  | .snapshot l seq => some (l, seq, .snapshot)
  | .trigger l seq slot kind tick pre post label => some (l, seq, .trigger slot kind tick pre post label)
  | .abort l seq slot force => some (l, seq, .abort slot force)
  | .slotStatus l seq slot => some (l, seq, .slotStatus slot)
  | .fetch l seq slot claim fromPart => some (l, seq, .fetch slot claim fromPart)
  | .release l seq slot serial => some (l, seq, .release slot serial)
  | .journalSubscribe l seq position => some (l, seq, .journalSubscribe position)
  | .journalAck l seq upTo => some (l, seq, .journalAck upTo)
  | .journalRewind l seq => some (l, seq, .journalRewind)
  | .journalUnsubscribe l seq => some (l, seq, .journalUnsubscribe)
  | .test l seq channels delay width gap count slot trigDelay label =>
    some (l, seq, .test channels delay width gap count slot trigDelay label)
  | .testCancel l seq => some (l, seq, .testCancel)
  | .faultsRead l seq => some (l, seq, .faultsRead)
  | .faultsClear l seq upTo => some (l, seq, .faultsClear upTo)
  | _ => none

/-- The link's handler is free: the part is not held in reset, no command is in hand and no frame waits. -/
def handlerFree (s : State) (l : Link) : Bool :=
  !s.resetPin && (s.links.get l).inHand.isNone && (s.links.get l).waiting.isEmpty

/-- No case of R168 from 1 to 3 applies to a good frame with this SEQ: a reply place is free, the cache does not hold the SEQ, and no DEVICE-RESET
is pending. -/
def handlerTakes (s : State) (l : Link) (seq : Byte) : Bool :=
  handlerFree s l && !s.resetPending && decide ((s.links.get l).replies.length < 4)
    && ((s.links.get l).cache.map (·.seq)) != some seq

/-- The link's handler executes the next good frame with this SEQ whatever its command (R168 case 8, with none of cases 1 to 5 before it): also, the
session is OPEN without its BYE mark. -/
def handlerReady (s : State) (l : Link) (seq : Byte) : Bool :=
  handlerTakes s l seq && (s.links.get l).session.isSome && !(s.links.get l).byeMark

/-- A link with one more good frame counted and its session timer restarted (R166). -/
def LinkState.counted (k : LinkState) : LinkState :=
  { k with counts := { k.counts with good := wrap32 (k.counts.good + 1) }, sinceGood := 0 }

/-- A link whose handler has taken a good frame and queued its answer: the good-frame count, the session timer, the reply queue and the cache
(R166, R168, R169). -/
def LinkState.answered (k : LinkState) (r : Reply) : LinkState :=
  { k.counted with replies := k.replies ++ [r], cache := some r }

/-- The state with one link's command answered. -/
def State.answered (s : State) (l : Link) (r : Reply) : State :=
  { s with links := s.links.set l ((s.links.get l).answered r) }

/-- The state with one link's command answered by a REPLY that calls for nothing once sent. -/
def State.replied (s : State) (l : Link) (seq kind : Byte) (b : ReplyBody) : State :=
  s.answered l { seq := seq, kind := kind, body := b, after := .nothing }

/-! ## Offers and removals, as claims speak of them -/

/-- The slot byte of a TRIGGER asks for this slot: by its number, or as `$FF` when it is the lowest-numbered EMPTY slot outside AUTO_SLOTS (R48,
R51). -/
def State.asksFor (s : State) (slot : Byte) (i : Fin 8) : Prop :=
  slot.toNat = i.val ∨
    (slot = 0xFF#8 ∧ s.slot i = none ∧ s.items.autoSlots.getLsbD i = false
      ∧ ∀ j < i, s.slot j = none → s.items.autoSlots.getLsbD j = true)

/-- The reference kind and tick of a TRIGGER form this R: ABSOLUTE, NOW or LAGGED (R44, R51). -/
def State.formsRef (s : State) (kind : Byte) (tick : BitVec 40) (r : Int) : Prop :=
  (kind = 0#8 ∧ r = (tick.toNat : Int)) ∨ (kind = 1#8 ∧ r = s.tableCurrent) ∨ (kind = 2#8 ∧ r = s.tableCurrent - (s.items.lineLag : Int))

/-- An offer's slot request, from whatever source, is for this slot: its number, or the lowest-numbered EMPTY slot outside AUTO_SLOTS (any) or in it
(auto) (R48). -/
def State.picks (s : State) (q : SlotRequest) (i : Fin 8) : Prop :=
  match q with
  | .numbered n => n = i.val
  | .any => s.slot i = none ∧ s.items.autoSlots.getLsbD i = false ∧ ∀ j < i, s.slot j = none → s.items.autoSlots.getLsbD j = true
  | .auto => s.slot i = none ∧ s.items.autoSlots.getLsbD i = true ∧ ∀ j < i, s.slot j = none → s.items.autoSlots.getLsbD j = false

/-- An offer's reference, from whatever source, gives this R (R44); an unknown kind gives none. -/
def State.refersTo (s : State) (x : Reference) (r : Int) : Prop :=
  match x with
  | .absolute t => r = (t : Int)
  | .now => r = s.tableCurrent
  | .lagged => r = s.tableCurrent - (s.items.lineLag : Int)
  | .ahead n => r = s.tableCurrent + (n : Int)
  | .unknown => False

/-- P or Q of a TRIGGER: its own value, or the default of the slot for `$FFFF` (R45, R46). -/
def sideOr (x : BitVec 16) (default : Nat) : Nat := if x = 0xFFFF#16 then default else x.toNat

/-- The journal after its n oldest entries are removed: with losses counted, a LOSS entry takes the room that a removal makes (R133). -/
def Journal.afterRemoval (j : Journal) (n now : Nat) : Journal :=
  if n = 0 ∨ j.lossCount = 0 then { j with entries := j.entries.drop n }
  else
    { j with
      entries := j.entries.drop n ++
        [{ seq := j.nextSeq, kind := .loss j.lossCount (j.firstLost.getD 0) (j.lastLost.getD 0), tick := now, test := false }]
      nextSeq := nextSeq32 j.nextSeq
      lossCount := 0
      firstLost := none
      lastLost := none }

/-- The raw value that a sample with these pins gives a channel (R6): injected, or the pin with polarity applied. -/
def State.rawAt (s : State) (pins : Bitmap) (c : Fin 48) : Bool :=
  rawValue (s.recordOf c) (pins.getLsbD c) (s.injector.covers c)

/-- A sample is due and is not the first of its run (R23, R28). -/
def State.laterSample (s : State) : Prop := s.resetPin = false ∧ s.samples = true ∧ s.cond.firstDue = false

/-- At this later sample the channel is in live processing: no hold reason before it or after its stage 4 (R4 stage 5). -/
def State.liveNext (s : State) (senses : GroupSet) (c : Fin 48) : Prop :=
  s.laterSample ∧ s.cond.channels[c].holds.any = false ∧ (s.recordOf c).enabled = true ∧ (s.monitorSample senses (groupOf c)).1.lost = false

/-- The changes that the next sample reports of one channel, in order (R20). -/
def State.changesAt (s : State) (pins : Bitmap) (senses : GroupSet) (c : Fin 48) : List ChangeKind :=
  ((s.conditioned pins senses (s.time.tick + 1)).changes.filter fun x => x.channel == c).map (·.kind)

/-- A channel as the next sample leaves it. -/
def State.channelAfter (s : State) (pins : Bitmap) (senses : GroupSet) (c : Fin 48) : Channel :=
  (makeSample pins senses s).cond.channels[c]

/-- A monitor as the next sample leaves it. -/
def State.monitorAfter (s : State) (pins : Bitmap) (senses : GroupSet) (g : Fin 6) : Monitor :=
  (makeSample pins senses s).cond.monitors[g]

end Sys2Proof.Machine
end

