-- ==== Sys2Proof/Tables.lean ====
section
/-! DEFINITION. The tables of spec/11 as lists of fields, for claims about what the part sends: each field with its size in bytes and the number it
carries, in the order of the table. -/

namespace Sys2Proof.Machine

/-! ## Fields (R179) -/

/-- The unsigned number of a field's bytes, least significant byte first (R179). -/
def fieldOf (bytes : List Byte) : Nat := bytes.foldr (fun b n => b.toNat + 256 * n) 0

/-- The bytes are these fields, one after the other and nothing more: each the unsigned form of its number in that many bytes, two's complement where
the number is negative (R179). -/
def laidOut : List (Nat × Int) → List Byte → Prop
  | [], bytes => bytes = []
  | (size, number) :: rest, bytes =>
    size ≤ bytes.length ∧ (fieldOf (bytes.take size) : Int) = number % 256 ^ size ∧ laidOut rest (bytes.drop size)

/-- One field. -/
def num (size : Nat) (number : Int) : Nat × Int := (size, number)

/-- A yes/no, or one bit of a packed byte. -/
def bit (b : Bool) (weight : Int := 1) : Int := if b then weight else 0

/-- The place of a value among the codes 0, 1, … of a code table. -/
def codeIn {α : Type} [DecidableEq α] (table : List α) (x : α) : Int := table.idxOf x

/-- An optional tick: 0 and zeros, or 1 and the tick. -/
def tickFields : Option Nat → List (Nat × Int)
  | none => [num 1 0, num 5 0]
  | some t => [num 1 1, num 5 t]

/-- Single bytes. -/
def byteFields (bytes : List Byte) : List (Nat × Int) := bytes.map fun b => num 1 b.toNat

/-- Vendor, family and part name with their padding (R159): "Vessaro", "Arcowen", "E48". -/
def nameFields : List (Nat × Int) :=
  [0x56, 0x65, 0x73, 0x73, 0x61, 0x72, 0x6F, 0x00, 0x41, 0x72, 0x63, 0x6F, 0x77, 0x65, 0x6E, 0x00, 0x45, 0x34, 0x38, 0x00].map fun c => num 1 c

/-! ## Codes (Tables 11-5 and 11-6) -/

/-- Slot states; EMPTY is 0 (Table 11-6). -/
def stateCode : Phase → Int
  | .armed => 1
  | .queued => 2
  | .extracting => 3
  | .ready => 4
  | .claimed _ => 5

/-- Sources (Table 11-6). -/
def sourceCode : Source → Int := codeIn [.linkA, .linkB, .line, .auto, .test]

/-- Links (Table 11-6). -/
def linkNumber : Link → Int := codeIn [.A, .B]

/-- A link that may be absent: 0, or 1 and 2 (Table 11-3). -/
def maybeLink : Option Link → Int := codeIn [none, some .A, some .B]

/-- The claim holder of a state (R105). -/
def holderOf : Phase → Option Link
  | .claimed l => some l
  | _ => none

/-- The flags byte (Table 11-5). -/
def flagsByte (f : Flags) : Int :=
  bit f.early + bit f.overrun 2 + bit f.stopped 4 + bit f.full 8 + bit f.poolShort 16 + bit f.rowError 32 + bit f.testSeen 64

/-- Result codes (Table 11-2). -/
def resultCode : Result → Int
  | .ok => 0x00
  | .pending => 0x01
  | .queued => 0x02
  | .unknownKind => 0x10
  | .badLength => 0x11
  | .badValue => 0x12
  | .noSession => 0x13
  | .resetting => 0x14
  | .readOnly => 0x15
  | .unknownItem => 0x16
  | .notRunning => 0x20
  | .notStopped => 0x21
  | .busy => 0x22
  | .limit => 0x23
  | .slotBusy => 0x30
  | .noSlot => 0x31
  | .windowGone => 0x32
  | .tooFar => 0x33
  | .noCapture => 0x40
  | .fetchPending => 0x41
  | .claimed => 0x42
  | .notHolder => 0x43
  | .stale => 0x44
  | .alreadyQueued => 0x45
  | .notSubscribed => 0x50
  | .alreadySubscribed => 0x51
  | .testBusy => 0x60

/-! ## Records, entries, reports -/

/-- A capture record (section 11.5). -/
def recordFields (r : CaptureRecord) : List (Nat × Int) :=
  [num 1 r.channel.val, num 1 (codeIn [.rise, .fall, .hold, .live] r.kind), num 2 r.offset]

/-- A journal entry (section 11.6): the entry kind in byte 0 with the bits above it, the tick, the detail and its zero bytes. The distances of a
LOSS are those of R184; one below 0, which R184 says cannot be, is sent as 0 (log 38). -/
def entryFields (e : Entry) : List (Nat × Int) :=
  let row (code : Int) (detail : List (Nat × Int)) : List (Nat × Int) := [num 1 (code + bit e.test 16), num 5 e.tick] ++ detail
  let distance (t : Nat) : Int := min (max ((e.tick : Int) - t) 0) 0xFFFFFF
  match e.kind with
  | .rise c => row 0 [num 1 c.val, num 7 0]
  | .fall c => row 1 [num 1 c.val, num 7 0]
  | .hold c r => row 2 [num 1 c.val, num 1 (codeIn [.chatter, .supply, .disabled] r), num 6 0]
  | .live c level ret => row (3 + bit ret 32 + bit level 64) [num 1 c.val, num 7 0]
  | .supplyLost g => row 4 [num 1 g.val, num 7 0]
  | .supplyBack g => row 5 [num 1 g.val, num 7 0]
  | .runStart => row 6 [num 8 0]
  | .runStop r => row 7 [num 1 (codeIn [.none, .stop, .limit] r), num 7 0]
  | .trigger i serial source => row 8 [num 1 i.val, num 2 serial, num 1 (sourceCode source), num 4 0]
  | .triggerRefused source none => row 9 [num 1 0xFF, num 1 (sourceCode source), num 6 0]
  | .triggerRefused source (some i) => row 9 [num 1 i.val, num 1 (sourceCode source), num 6 0]
  | .loss count first last => row 10 [num 2 (min count 65535), num 3 (distance first), num 3 (distance last)]

/-- A fault record (section 11.7). -/
def faultFields (r : FaultRecord) : List (Nat × Int) :=
  let row (code : Int) (detail : List (Nat × Int)) : List (Nat × Int) := [num 2 r.seq, num 1 code, num 5 r.report.tick] ++ detail
  match r.report.kind with
  | .rowCheck i serial => row 0 [num 1 i.val, num 2 serial]
  | .supplyLost g => row 1 [num 1 g.val, num 2 0]
  | .poolExhausted i serial => row 2 [num 1 i.val, num 2 serial]
  | .autoMissed c => row 3 [num 1 c.val, num 2 0]

/-- A slot report (Table 11-3). -/
def reportFields (r : SlotReport) : List (Nat × Int) :=
  match r.capture with
  | none => [num 1 r.slot.val, num 26 0]
  | some c =>
    [num 1 (r.slot.val + 8 * stateCode c.phase + bit c.initial.isSome 64), num 2 c.serial,
      num 1 (sourceCode c.source + 8 * maybeLink (holderOf c.phase) + 32 * maybeLink (c.fetch.map (·.link)) + bit (c.fetch.any (·.claim)) 128),
      num 1 (match c.fetch with
        | none => 0
        | some f => f.fromPart),
      num 1 r.place, num 2 c.label, num 6 c.ref, num 3 (c.pre + 2048 * c.post), num 3 (c.effStart - c.ref),
      num 3 (c.effEnd - c.ref), num 1 (flagsByte c.flags), num 2 r.records, num 1 r.blocks]

/-- A slot and serial as REPLYs and SLOT-STATUS give them: `$FF` and 0 when absent (R182). -/
def slotSerial : Option (Fin 8 × Nat) → List (Nat × Int)
  | none => [num 1 0xFF, num 2 0]
  | some (i, serial) => [num 1 i.val, num 2 serial]

/-- The test state (Table 11-6). -/
def testCode : Injector → Int
  | .idle => 0
  | .delay _ _ => 1
  | .injecting _ _ _ _ => 2

/-! ## Frames (section 11.1, R182, R183) -/

/-- The result of a REPLY and its fields after the kind and the result (R182). -/
def replyFields : ReplyBody → Result × List (Nat × Int)
  | .refused code => (code, [])
  | .hello l boot number label => (.ok, nameFields ++ [num 1 1, num 1 (linkNumber l), num 2 boot, num 2 number] ++ byteFields label.toList)
  | .session n => (.ok, [num 2 n])
  | .item id value => (.ok, [num 2 id.toNat] ++ byteFields value)
  | .deviceReset boot => (.ok, [num 2 boot])
  | .start t => (.ok, [num 5 t])
  | .stop t => (.ok, tickFields t)
  | .snapshot none => (.ok, tickFields none)
  | .snapshot (some v) =>
    (.ok, tickFields (some v.tick) ++ [num 6 v.levels.toNat, num 6 v.raws.toNat, num 6 v.chatter.toNat, num 6 v.supply.toNat, num 6 v.disabled.toNat])
  | .trigger i serial r s e => (.ok, [num 1 i.val, num 2 serial, num 6 r, num 6 s, num 6 e])
  | .abort i serial was => (.ok, [num 1 i.val, num 2 serial, num 1 (stateCode was)])
  | .slotStatus newest nextSerial queue e0 e1 reports =>
    (.ok, tickFields newest ++ [num 2 nextSerial] ++ queue.map (fun i => num 1 i.val) ++ List.replicate (8 - queue.length) (num 1 0xFF)
      ++ slotSerial e0 ++ slotSerial e1 ++ reports.flatMap reportFields)
  | .fetchPending i serial phase => (.pending, [num 1 i.val, num 2 serial, num 1 (stateCode phase), num 2 0, num 1 0, num 1 0])
  | .fetchQueued i serial phase records parts ahead =>
    (.queued, [num 1 i.val, num 2 serial, num 1 (stateCode phase), num 2 records, num 1 parts, num 1 ahead])
  | .release i serial blocks => (.ok, [num 1 i.val, num 2 serial, num 1 blocks])
  | .subscribe acked cursor oldest newest held loss => (.ok, [num 4 acked, num 4 cursor, num 4 oldest, num 4 newest, num 2 held, num 4 loss])
  | .ack acked removed oldest => (.ok, [num 4 acked, num 2 removed, num 4 oldest])
  | .rewind cursor => (.ok, [num 4 cursor])
  | .unsubscribe removed => (.ok, [num 2 removed])
  | .test first last none => (.ok, [num 5 first, num 5 last, num 1 0xFF, num 2 0, num 6 0, num 6 0, num 6 0])
  | .test first last (some (i, serial, r, s, e)) => (.ok, [num 5 first, num 5 last, num 1 i.val, num 2 serial, num 6 r, num 6 s, num 6 e])
  | .testCancel was => (.ok, [num 1 (testCode was)])
  | .faultsRead records lost next => (.ok, [num 1 records.length, num 1 lost, num 2 next] ++ records.flatMap faultFields)
  | .faultsClear removed left lost => (.ok, [num 1 removed, num 1 left, num 1 lost])

/-- A CAPTURE-HEAD (Table 11-4). -/
def headFields (h : Head) : List (Nat × Int) :=
  let c := h.capture
  [num 1 h.slot.val, num 2 c.serial, num 1 (sourceCode c.source), num 2 c.label, num 6 c.ref, num 2 c.pre, num 2 c.post, num 6 (c.ref - c.pre),
    num 6 (c.ref + c.post), num 6 c.effStart, num 6 c.effEnd, num 1 (flagsByte c.flags), num 2 c.records.length, num 1 h.partCount, num 1 h.fromPart,
    num 1 (stateCode c.phase),
    num 1 (match holderOf c.phase with
      | none => 0xFF
      | some l => linkNumber l),
    num 1 (bit c.initial.isSome)]
    ++ (match c.initial with
      | none => [num 6 0, num 6 0]
      | some x => [num 6 x.levels.toNat, num 6 x.held.toNat])
    ++ [num 2 h.bootEpoch] ++ byteFields h.label.toList

/-- A frame the part sends: its KIND and the fields of its body (R182, R183, Tables 11-1, 11-7 and 11-8). -/
def bodyFields : FrameBody → Byte × List (Nat × Int)
  | .reply r => (0x80#8, [num 1 r.kind.toNat, num 1 (resultCode (replyFields r.body).1)] ++ (replyFields r.body).2)
  | .notice n =>
    (0x81#8, [num 1 (bit n.slotReady.isSome + bit n.alert.isSome 2 + bit n.fault 4 + bit n.rxError 8 + bit n.overrun 16)]
      ++ (match n.slotReady with
        | none => []
        | some slots => [num 1 slots.toNat])
      ++ (match n.alert with
        | none => []
        | some a => [num 2 a.count, num 1 a.channel.val, num 5 a.tick]))
  | .sessionEnd reason n => (0x82#8, [num 1 (codeIn [.bye, .timeout, .lineBreak, .rehello, .reset] reason), num 2 n])
  | .captureHead h => (0x90#8, headFields h)
  | .capturePart i serial part records =>
    (0x91#8, [num 1 i.val, num 2 serial, num 1 part, num 1 records.length] ++ records.flatMap recordFields)
  | .captureEnd i serial status sent => (0x92#8, [num 1 i.val, num 2 serial, num 1 (codeIn [.complete, .cut, .aborted] status), num 1 sent])
  | .journalData first entries => (0xA0#8, [num 4 first] ++ entries.flatMap entryFields)

/-- The frame check of R178: the register from `$FFFF`; each byte XORed into its high eight bits, then eight shifts to the left, with `$1021` XORed in
after each shift in which the bit shifted out was 1. -/
def checkOf (bytes : List Byte) : BitVec 16 :=
  let shift : BitVec 16 → BitVec 16 := fun r => if r.msb then (r <<< 1) ^^^ 0x1021#16 else r <<< 1
  bytes.foldl (fun (r : BitVec 16) (b : Byte) => shift^[8] (r ^^^ (BitVec.setWidth 16 b <<< 8))) 0xFFFF#16

/-! ## Items (section 9.1, Table 11-9) -/

/-- An item's identifier (section 9.1). -/
def identifierOf : ItemId → Nat
  | .tickPeriod => 0x0001
  | .lineEnable => 0x0002
  | .lineLag => 0x0003
  | .autoSlots => 0x0004
  | .autoHoldoff => 0x0005
  | .alertWidth => 0x0006
  | .supplyMonitor => 0x0007
  | .supplyLossTicks => 0x0008
  | .supplyReturnTicks => 0x0009
  | .sessionTimeout => 0x000A
  | .linkRate .A => 0x000B
  | .linkRate .B => 0x000C
  | .epochLabel => 0x000D
  | .slotWindow i => 0x0100 + i.val
  | .profile p => 0x0200 + p.val
  | .channel c => 0x0300 + c.val
  | .ident => 0x8000
  | .bootEpoch => 0x8001
  | .runState => 0x8002
  | .newestTick => 0x8003
  | .runStartTick => 0x8004
  | .poolFree => 0x8005
  | .lineCounts => 0x8006
  | .autoCounts => 0x8007
  | .linkCounts .A => 0x8008
  | .linkCounts .B => 0x8009
  | .journalState => 0x800A
  | .testState => 0x800B

/-- The link rates (R157). -/
def baudOf : Rate → Nat
  | .r115200 => 115200
  | .r230400 => 230400
  | .r460800 => 460800
  | .r921600 => 921600
  | .r1843200 => 1843200
  | .r3000000 => 3000000

/-- LINK_COUNTS of a link (R177). -/
def linkCountFields (k : LinkState) : List (Nat × Int) :=
  let c := k.counts
  [num 4 c.good, num 4 c.crc, num 4 c.length, num 4 c.gap, num 4 c.framing, num 4 c.breaks, num 4 c.overruns, num 4 c.replays,
    num 1 (bit k.session.isSome),
    num 2 (match k.session with
      | none => 0
      | some n => n),
    num 2 k.lastSession, num 4 c.ends.bye, num 4 c.ends.timeout, num 4 c.ends.lineBreak, num 4 c.ends.rehello, num 4 c.ends.reset, num 4 (baudOf k.rate)]

/-- A subscriber's positions in JOURNAL_STATE (R142). -/
def subscriberFields : Option Subscriber → List (Nat × Int)
  | none => [num 4 0, num 4 0]
  | some x => [num 4 x.acked, num 4 x.cursor]

/-- JOURNAL_STATE (R142): the oldest seq is that of the entry at the front, or the next seq when none is held; the newest is the one before the next
(R126). -/
def journalFields (j : Journal) : List (Nat × Int) :=
  [num 4 (match j.entries with
      | [] => j.nextSeq
      | e :: _ => e.seq),
    num 4 ((j.nextSeq : Int) - 1), num 2 j.entries.length, num 4 j.lossCount, num 5 (j.firstLost.getD 0), num 5 (j.lastLost.getD 0),
    num 1 (bit j.subs.a.isSome + bit j.subs.b.isSome 2)]
    ++ subscriberFields j.subs.a ++ subscriberFields j.subs.b

/-- TEST_STATE (R148). An injected tick above 2^40 − 1 is sent by its low 40 bits (log 37). -/
def testFields (i : Injector) : List (Nat × Int) :=
  let run (r : TestRun) : List (Nat × Int) := [num 6 r.channels.toNat, num 2 r.label, num 5 r.first, num 5 r.last] ++ slotSerial r.trigger
  match i with
  | .idle => [num 1 0, num 6 0, num 2 0, num 5 0, num 5 0, num 1 0xFF, num 2 0, num 2 0, num 1 0, num 1 0, num 2 0]
  | .delay r remaining => [num 1 1] ++ run r ++ [num 2 remaining, num 1 0, num 1 0, num 2 0]
  | .injecting r pulse high remaining => [num 1 2] ++ run r ++ [num 2 0, num 1 pulse, num 1 (bit high), num 2 remaining]

/-- The value that a GET of an item reports, as Table 11-9 lays it out: what the item's own block holds. -/
def itemFields (s : State) : ItemId → List (Nat × Int)
  | .tickPeriod => [num 2 s.items.tickPeriod]
  | .lineEnable => [num 1 (bit s.items.lineEnable)]
  | .lineLag => [num 1 s.items.lineLag]
  | .autoSlots => [num 1 s.items.autoSlots.toNat]
  | .autoHoldoff => [num 2 s.items.autoHoldoff]
  | .alertWidth => [num 1 s.items.alertWidth]
  | .supplyMonitor => [num 1 s.items.supplyMonitor.toNat]
  | .supplyLossTicks => [num 1 s.items.supplyLossTicks]
  | .supplyReturnTicks => [num 2 s.items.supplyReturnTicks]
  | .sessionTimeout => [num 2 s.items.sessionTimeout]
  | .linkRate .A => [num 4 (baudOf s.items.rateA)]
  | .linkRate .B => [num 4 (baudOf s.items.rateB)]
  | .epochLabel => byteFields s.items.epochLabel.toList
  | .slotWindow i => [num 2 (s.items.windows[i].pre), num 2 (s.items.windows[i].post)]
  | .profile p =>
    let x := s.items.profiles[p]
    [num 1 x.debounce, num 1 x.chatterLimit, num 2 x.chatterWindow, num 2 x.chatterQuiet]
  | .channel c =>
    let r := s.items.channels[c]
    [num 1 (bit r.enabled + bit r.invert 2 + bit r.journal 4 + bit r.alert 8 + bit r.auto 16), num 1 r.profile.val]
  | .ident =>
    nameFields ++ [num 1 1, num 4 Config.unitNumber] ++ [48, 6, 4, 8, 2, 4096, 128, 32, 1024, 56, 1024, 64, 16, 4, 4, 8].map fun n => num 2 n
  | .bootEpoch => [num 2 s.time.bootEpoch]
  | .runState =>
    [num 1 (bit s.time.running), num 1 (codeIn [.none, .stop, .limit] s.time.stopReason), num 1 (bit s.time.limitReached), num 2 s.time.period]
  | .newestTick => tickFields (s.ring.getLast?.map (·.tick))
  | .runStartTick => tickFields s.time.runStart
  | .poolFree => [num 1 s.pool.length]
  | .lineCounts =>
    [num 4 s.trig.lineAccepted, num 4 s.trig.lineRefused, num 4 s.trig.lineIgnored, num 4 s.trig.lineParity, num 4 s.trig.lineFraming]
  | .autoCounts =>
    [num 4 s.trig.autoAccepted, num 4 s.trig.autoMissed, num 4 s.trig.autoRefused, num 4 s.trig.autoIgnored, num 4 s.trig.autoHeldOff,
      num 4 s.trig.alertTransitions, num 2 s.trig.holdoff, num 1 s.trig.alertCountdown, num 1 (bit s.trig.alert)]
  | .linkCounts l => linkCountFields (s.links.get l)
  | .journalState => journalFields s.journal
  | .testState => testFields s.injector

/-- The items `y` are the items `x` with one item replaced by the value whose bytes carry the number `n`, least significant byte first, every field of
it in its range (R1, R2, R12, R27, R46, R48, R55, R57, R59, R157, R172, R180). A read-only item is never replaced. -/
def Items.replaced (x y : Items) (n : Nat) : ItemId → Prop
  | .tickPeriod => 100 ≤ n ∧ n ≤ 10000 ∧ y = { x with tickPeriod := n }
  | .lineEnable => n ≤ 1 ∧ y = { x with lineEnable := n == 1 }
  | .lineLag => y = { x with lineLag := n }
  | .autoSlots => y = { x with autoSlots := BitVec.ofNat 8 n }
  | .autoHoldoff => y = { x with autoHoldoff := n }
  | .alertWidth => 1 ≤ n ∧ y = { x with alertWidth := n }
  | .supplyMonitor => n < 64 ∧ y = { x with supplyMonitor := BitVec.ofNat 6 n }
  | .supplyLossTicks => 1 ≤ n ∧ y = { x with supplyLossTicks := n }
  | .supplyReturnTicks => 1 ≤ n ∧ y = { x with supplyReturnTicks := n }
  | .sessionTimeout => (n = 0 ∨ (100 ≤ n ∧ n ≤ 60000)) ∧ y = { x with sessionTimeout := n }
  | .linkRate .A => ∃ r, baudOf r = n ∧ y = { x with rateA := r }
  | .linkRate .B => ∃ r, baudOf r = n ∧ y = { x with rateB := r }
  | .epochLabel => fieldOf y.epochLabel.toList = n ∧ y = { x with epochLabel := y.epochLabel }
  | .slotWindow i =>
    n % 65536 ≤ 2047 ∧ n / 65536 ≤ 2047 ∧ y = { x with windows := x.windows.set i { pre := n % 65536, post := n / 65536 } }
  | .profile p =>
    let v : Profile :=
      { debounce := n % 256, chatterLimit := n / 256 % 256, chatterWindow := n / 65536 % 65536, chatterQuiet := n / 4294967296 }
    1 ≤ v.debounce ∧ v.debounce ≤ 15 ∧ v.chatterLimit ≠ 1 ∧ 1 ≤ v.chatterWindow ∧ 1 ≤ v.chatterQuiet
      ∧ y = { x with profiles := x.profiles.set p v }
  | .channel c =>
    n % 256 < 32 ∧ ∃ profile : Fin 4, profile.val = n / 256 ∧ y =
      { x with
        channels := x.channels.set c
          { enabled := n.testBit 0
            invert := n.testBit 1
            profile := profile
            journal := n.testBit 2
            alert := n.testBit 3
            auto := n.testBit 4 } }
  | _ => False

end Sys2Proof.Machine
end

