-- ==== Sys2Proof/Certificates/Slice0/Obligations.lean ====
section
/-! DEFINITION. The statements for the provers. Each docstring names the rules of spec/ that a statement formalises and, where it rests on a
choice of the model, the log entry that says so. -/

open Sys2Proof Sys2Proof.Machine

/-! ## The machine -/

/-- One step runs the command at the front of the queue on the state with the queue's rest (log 2). -/
def Obligations.StepRunsTheFrontCommand : Prop :=
  ∀ (c : Instr) (rest : List Instr) (s : State), step { s with pending := c :: rest } = exec c { s with pending := rest }

/-- MODEL'S CHOICE (log 2): on an empty queue one ms passes, which an OPEN session's timer of R172 counts and nothing else sees; none passes while
the part is held in reset. -/
def Obligations.EmptyQueueIsOneMillisecond : Prop :=
  ∀ s : State, s.pending = [] →
    (s.resetPin = true → step s = .next s) ∧
    (s.resetPin = false → ∃ k, step s = .next { s with links := k } ∧
      ∀ l, k.get l = if (s.links.get l).session.isSome then { s.links.get l with sinceGood := (s.links.get l).sinceGood + 1 } else s.links.get l)

/-- MODEL'S CHOICE (logs 1, 2 and 32): every command answers a next state, whatever state it is given, one that finds nothing to do or is given
a state no run reaches included; and none changes the queue of commands. -/
def Obligations.EveryCommandGoesOn : Prop :=
  ∀ (i : Instr) (s : State), ∃ t, exec i s = .next t ∧ t.pending = s.pending

/-- While the reset pin is asserted nothing happens until the hard reset is carried out (R163). A hard reset leaves every block as its own reset rule
says, with ALERT released, no DEVICE-RESET pending, nothing on its way between blocks and the pin released (R163); asserting the pin releases
ALERT and changes nothing else but that the part is held (R163; log 22). MODEL'S CHOICE: the reset values of a link's stretch (log 20), of the
trigger line's awaitHigh (log 21), and of firstDue, injectorStop and sinceGood (log 23). The queue is the sender's and stays. -/
def Obligations.ResetPinHoldsThePart : Prop :=
  (∀ (i : Instr) (s : State), s.resetPin = true → i ≠ .hardReset → i ≠ .resetPinAsserted → exec i s = .next s) ∧
  ∀ s : State,
    (exec .hardReset s = .next
      { items := Items.default, time := Timebase.reset, cond := Conditioner.reset Items.default, injector := .idle, ring := []
        trig := TriggerUnit.reset, table := SlotTable.reset, engines := { x0 := .idle, x1 := .idle }, pool := List.range 128
        readouts := { a := Readout.reset, b := Readout.reset }, journal := Journal.reset, faults := FaultLog.reset
        links := { a := LinkState.reset, b := LinkState.reset }, device := .normal, resetPin := false, wires := Wires.empty
        pending := s.pending }) ∧
    exec .resetPinAsserted s = .next { s with trig := { s.trig with alert := false }, resetPin := true }

/-! ## Laws that every step keeps -/

/-- The part right after a hard reset meets every law of Safety.lean. -/
def Obligations.ResetMeetsEveryLaw : Prop :=
  ItemsLaw State.reset.items ∧ CondLaw State.reset.cond ∧ InjectorLaw State.reset.injector ∧ TimeLaw State.reset.time
    ∧ RingLaw State.reset.time State.reset.ring State.reset.wires.ringIn ∧ AlertLaw State.reset.trig ∧ SlotLaw State.reset.table
    ∧ PoolLaw State.reset ∧ (∀ l, ReadoutLaw (State.reset.readouts.get l)) ∧ ClaimLaw State.reset ∧ JournalLaw State.reset.journal
    ∧ FaultLaw State.reset.faults ∧ ∀ l, LinkLaw (State.reset.links.get l)

/-- Every item stays in the range of its rule (R1, R2, R12, R27, R46, R55, R57, R59, R157); with the items every channel and supply monitor stays in
the ranges of R3 and R13, and the injector in those of R143, where a low phase always has a pulse after it (R146). -/
def Obligations.ItemsChannelsAndInjectorStayInRange : Prop :=
  ∀ s t : State, ItemsLaw s.items ∧ CondLaw s.cond ∧ InjectorLaw s.injector → step s = .next t →
    ItemsLaw t.items ∧ CondLaw t.cond ∧ InjectorLaw t.injector

/-- The law of the ring (R37), with the ranges of the timebase (R26) that START and the limit keep (R30 to R32): at most 4096 rows, and at most one
sample on its way to it (R37; log 36); with that sample, consecutive ticks that end at the tick counter, none older than the run start tick, and
none of the run missing while the ring has room. -/
def Obligations.RingLawIsKept : Prop :=
  ∀ s t : State, ItemsLaw s.items ∧ TimeLaw s.time ∧ RingLaw s.time s.ring s.wires.ringIn → step s = .next t →
    ItemsLaw t.items ∧ TimeLaw t.time ∧ RingLaw t.time t.ring t.wires.ringIn

/-- ALERT is asserted exactly while the alert countdown is above 0 (R59), and both countdowns stay in range (R56). While the pin is asserted, ALERT
is released whatever the countdown held (R163), so the law speaks of a part that is not held. -/
def Obligations.AlertFollowsItsCountdown : Prop :=
  ∀ s t : State, ItemsLaw s.items ∧ (s.resetPin = false → AlertLaw s.trig) → step s = .next t →
    ItemsLaw t.items ∧ (t.resetPin = false → AlertLaw t.trig)

/-- The acceptance list holds exactly the slots that are not EMPTY (R70), the extraction queue exactly those that are QUEUED (R84), each once, and
the serials in use are non-zero and pairwise distinct (R68). -/
def Obligations.SlotTableLawIsKept : Prop :=
  ∀ s t : State, SlotLaw s.table → step s = .next t → SlotLaw t.table

/-- The law of the pool (R100): the blocks 0 … 127 stand in one place each and once: on the free list, held by a slot or an engine, granted and not
yet received, or handed back and not yet taken. With it the law of the blocks held by slots (R96) and by engines (R93, R95). -/
def Obligations.PoolLawIsKept : Prop :=
  ∀ s t : State, SlotLaw s.table ∧ PoolLaw s → step s = .next t → SlotLaw t.table ∧ PoolLaw t

/-- The entries of a delivery queue and its reserved places together never use more than eight places (R104). -/
def Obligations.DeliveryPlacesAreNeverExceeded : Prop :=
  ∀ s t : State, (∀ l, ReadoutLaw (s.readouts.get l)) → step s = .next t → ∀ l, ReadoutLaw (t.readouts.get l)

/-- No claim and no pending fetch outlives its session, but for the hand-off that tells the slot table of the end; and a fetch is pending only while
its slot is ARMED, QUEUED or EXTRACTING (R105, R121). -/
def Obligations.ClaimsNeedASession : Prop :=
  ∀ s t : State, (∀ l, LinkLaw (s.links.get l)) ∧ ClaimLaw s → step s = .next t → (∀ l, LinkLaw (t.links.get l)) ∧ ClaimLaw t

/-- The law of the journal and its subscribers (R125, R126, R132, R134): at most 1024 entries with consecutive seqs; each acknowledged position
before its cursor and neither outside what is held; never more than 64 entries outstanding. The law of the fault log (R149): at most four records
with consecutive seqs, and a lost count of 0 whenever the log is empty. -/
def Obligations.JournalAndFaultLogLawsAreKept : Prop :=
  ∀ s t : State, JournalLaw s.journal ∧ FaultLaw s.faults → step s = .next t → JournalLaw t.journal ∧ FaultLaw t.faults

/-- The laws of a link (R164, R168 to R170, R174): never more than four REPLYs, always a place for the answer of the command in hand, and a BYE mark,
a cached REPLY or a pending notice only while the session is OPEN. -/
def Obligations.LinkLawIsKept : Prop :=
  ∀ s t : State, (∀ l, LinkLaw (s.links.get l)) → step s = .next t → ∀ l, LinkLaw (t.links.get l)

/-! ## Frames and values on the line -/

/-- A good frame is read as a command exactly when its KIND and body are those of spec/11 section 11.3 for that command, and as an unknown kind
exactly when no command has its KIND (R168 cases 6 to 8, R181). -/
def Obligations.CommandsReadAsWritten : Prop :=
  (∀ (kind : Byte) (body : List Byte) (c : Command), readFrame kind body = .command c ↔ kind = c.kind ∧ body = c.body) ∧
    ∀ (kind : Byte) (body : List Byte), readFrame kind body = .unknownKind ↔ ∀ c : Command, c.kind ≠ kind

/-- A receiver that hunts takes the characters of a whole frame as that frame, with its check right and nothing counted, and then hunts again
(section 11.1, R165, R166). A frame's bytes are SYNC, LEN, SEQ, KIND, the body and the check of R178, high byte first. Every body the part sends
is laid out as spec/11 says, with the KIND and the codes of section 11.9 (R179, R182 to R184, Tables 11-1 to 11-8). MODEL'S CHOICE: that a
character ends a stretch of low line (log 20), and what is sent of an injected tick above 2^40 − 1 (log 37) and of a LOSS entry's lost tick later
than its own (log 38). -/
def Obligations.FramesAreReceivedAsSent : Prop :=
  (∀ (seq kind : Byte) (body : List Byte) (k : LinkState), body.length ≤ 240 → k.receiver = .hunt →
    ∃ f : RawFrame, f.seq = seq ∧ f.kind = kind ∧ f.bytes = body ∧ f.checks = true
      ∧ (frameBytes seq kind body).foldl LinkState.takeCharacter k = { k with stretch := .high, complete := k.complete ++ [f] }) ∧
  (∀ (seq kind : Byte) (body : List Byte), body.length ≤ 240 →
    ∃ len high low : Byte, len.toNat = body.length ∧ frameBytes seq kind body = 0xC3#8 :: len :: seq :: kind :: body ++ [high, low]
      ∧ checkOf (len :: seq :: kind :: body) = high ++ low) ∧
  ∀ b : FrameBody, b.kind = (bodyFields b).1 ∧ laidOut (bodyFields b).2 b.bytes

/-- A value that an item takes is read back byte for byte, and every other item keeps its value (R154, R155, Table 11-9). An item takes a value of its
length exactly when every field of it is in range (R1, R2, R12, R27, R46, R48, R55, R57, R59, R157, R172, R180), and what it then holds is the value
those bytes carry. -/
def Obligations.ItemValuesReadBack : Prop :=
  (∀ (x y : Items) (id : ItemId) (v : List Byte), x.write id v = some y →
    id.writable = true ∧ v.length = id.size ∧ y.value id = v ∧ ∀ d, d ≠ id → y.value d = x.value d) ∧
  ∀ (x y : Items) (id : ItemId) (v : List Byte), v.length = id.size → (x.write id v = some y ↔ x.replaced y (fieldOf v) id)

/-! ## The command handler -/

/-- The first five cases of R168 for a good frame of any host command, and for any good frame the handler takes, one of an unknown kind or a wrong
length included: a full reply queue, a SEQ the cache holds, a pending DEVICE-RESET, a session whose BYE mark is set, and a CLOSED session with any
KIND but HELLO's. In each the frame is counted and restarts the session timer (R166), nothing of any other block changes, and the command is not
executed. A replayed REPLY calls for nothing more once sent (log 29). -/
def Obligations.FramesTheHandlerDoesNotExecute : Prop :=
  (∀ (l : Link) (f : GoodFrame) (t : State),
    let k := t.links.get l
    let refused (code : Result) : Reply := { seq := f.seq, kind := f.kind, body := .refused code, after := .nothing }
    (4 ≤ k.replies.length →
      handlerTake l f t = t.modLink l fun k =>
        { k with
          counts := { k.counts with overruns := wrap32 (k.counts.overruns + 1) }
          notices := { k.notices with overrun := k.notices.overrun || k.session.isSome } }) ∧
    (k.replies.length < 4 →
      (∀ r, k.cache = some r → r.seq = f.seq →
        handlerTake l f t = t.modLink l fun k =>
          { k with
            counts := { k.counts with replays := wrap32 (k.counts.replays + 1) }
            replies := k.replies ++ [{ r with after := .nothing }] }) ∧
      (k.cache.map (·.seq) ≠ some f.seq →
        (t.resetPending = true →
          handlerTake l f t = t.modLink l fun k =>
            { k with
              replies := k.replies ++ [refused .resetting]
              cache := if k.session.isSome then some (refused .resetting) else k.cache }) ∧
        (t.resetPending = false → k.session.isSome = true → k.byeMark = true → handlerTake l f t = t) ∧
        (t.resetPending = false → k.session = none → f.kind ≠ 0x01#8 →
          handlerTake l f t = t.modLink l fun k => { k with replies := k.replies ++ [refused .noSession] })))) ∧
  ∀ (i : Instr) (l : Link) (seq : Byte) (c : Command) (s : State), hostCommand i = some (l, seq, c) → handlerFree s l = true →
    (4 ≤ (s.links.get l).replies.length →
      exec i s = .next (s.modLink l fun k =>
        { k.counted with
          counts := { k.counted.counts with overruns := wrap32 (k.counts.overruns + 1) }
          notices := { k.notices with overrun := k.notices.overrun || k.session.isSome } })) ∧
    ((s.links.get l).replies.length < 4 →
      (∀ r, (s.links.get l).cache = some r → r.seq = seq →
        exec i s = .next (s.modLink l fun k =>
          { k.counted with
            counts := { k.counted.counts with replays := wrap32 (k.counts.replays + 1) }
            replies := k.replies ++ [{ r with after := .nothing }] })) ∧
      ((s.links.get l).cache.map (·.seq) ≠ some seq →
        (s.resetPending = true →
          exec i s = .next (s.modLink l fun k =>
            { k.counted with
              replies := k.replies ++ [{ seq := seq, kind := c.kind, body := .refused .resetting, after := .nothing }]
              cache := if k.session.isSome then some { seq := seq, kind := c.kind, body := .refused .resetting, after := .nothing }
                else k.cache })) ∧
        (s.resetPending = false → (s.links.get l).session.isSome = true → (s.links.get l).byeMark = true →
          exec i s = .next (s.modLink l LinkState.counted)) ∧
        (s.resetPending = false → (s.links.get l).session = none → c ≠ .hello →
          exec i s = .next (s.modLink l fun k =>
            { k.counted with
              replies := k.replies ++ [{ seq := seq, kind := c.kind, body := .refused .noSession, after := .nothing }] }))))

/-- HELLO opens a session with the next session number and answers with the part's identity for the host (R170). On a CLOSED link nothing else
changes; on an OPEN link the old session ends first, for the reason REHELLO (R173). MODEL'S CHOICE: what the transmitter has asked of the journal
is withdrawn with it (log 18), and a rate that only a discarded REPLY was to bring is taken at once when nothing is on the line (R157; log 25). -/
def Obligations.HelloOpensASession : Prop :=
  ∀ (l : Link) (seq : Byte) (s : State),
    let k := s.links.get l
    let number := next65535 k.lastSession
    let reply : Reply := { seq := seq, kind := 0x01#8, body := .hello l s.time.bootEpoch number s.items.epochLabel, after := .nothing }
    (handlerTakes s l seq = true → k.session = none →
      exec (.hello l seq) s = .next (s.modLink l fun k =>
        { k.counted with
          session := some number
          lastSession := number
          byeMark := false
          replies := k.replies ++ [reply]
          cache := some reply })) ∧
    ∀ old, handlerReady s l seq = true → k.session = some old →
      exec (.hello l seq) s = .next
        { s with
          links := s.links.set l
            { k.counted with
              counts := { k.counted.counts with ends := { k.counts.ends with rehello := wrap32 (k.counts.ends.rehello + 1) } }
              session := some number
              lastSession := number
              byeMark := false
              replies := [reply]
              cache := some reply
              notices := Notices.empty
              pendingEnd := some (.rehello, old)
              rate := if k.onLine then k.rate else (discardedRate k.replies k.rateDue).getD k.rate
              receiver := if k.onLine ∨ discardedRate k.replies k.rateDue = none then k.receiver else .hunt
              rateDue := if k.onLine then discardedRate k.replies k.rateDue else none
              tx := k.tx.atSessionEnd }
          wires := s.wires.endSession l }

/-- PING answers with the session's number and changes nothing else; BYE also sets the BYE mark, and its REPLY ends the session once sent
(R171). -/
def Obligations.PingAndByeAnswerTheSession : Prop :=
  ∀ (l : Link) (seq : Byte) (n : Nat) (s : State), handlerReady s l seq = true → (s.links.get l).session = some n →
    exec (.ping l seq) s = .next (s.answered l { seq := seq, kind := 0x03#8, body := .session n, after := .nothing }) ∧
    exec (.bye l seq) s = .next (s.modLink l fun k =>
      { k.answered { seq := seq, kind := 0x02#8, body := .session n, after := .byeEnd n } with byeMark := true })

/-! ## Items and device control -/

/-- GET answers with the item's value, laid out as Table 11-9 says from what the item's block holds (R33, R34, R63, R64, R103, R142, R148, R159, R177),
and changes nothing; LINK_COUNTS of the link that carries the GET includes the GET itself, and an identifier that names no item of section 9.1 is
refused (R154, R166). The journal answers for JOURNAL_STATE after it has taken an earlier session end of the link (log 4). MODEL'S CHOICE: what
TEST_STATE shows of an injected tick above 2^40 − 1 (log 37). -/
def Obligations.GetReportsAndChangesNothing : Prop :=
  (∀ (id : BitVec 16) (x : ItemId), ItemId.ofId id = some x ↔ id.toNat = identifierOf x) ∧
  ∀ (l : Link) (seq : Byte) (id : BitVec 16) (s : State), handlerReady s l seq = true →
    ((∀ x, id.toNat ≠ identifierOf x) →
      exec (.get l seq id) s = .next (s.answered l { seq := seq, kind := 0x10#8, body := .refused .unknownItem, after := .nothing })) ∧
    ∀ x, id.toNat = identifierOf x → (x = .journalState → s.journalEndDue l = false) → ∃ v : List Byte,
      exec (.get l seq id) s = .next (s.answered l { seq := seq, kind := 0x10#8, body := .item id v, after := .nothing }) ∧
        laidOut (itemFields (s.modLink l LinkState.counted) x) v

/-- SET stores the value, answers with it, and changes nothing else; a refused SET changes nothing at all. The checks stand in the order of R155:
the item known, writable, the value's length, its range, and TICK_PERIOD only while STOPPED (R27), a link rate not while the other link it names is OPEN
(R157). -/
def Obligations.SetStoresOrRefuses : Prop :=
  ∀ (l : Link) (seq : Byte) (id : BitVec 16) (v : List Byte) (s : State), handlerReady s l seq = true →
    let refused (code : Result) : Host.Outcome State Fault Refusal :=
      .next (s.answered l { seq := seq, kind := 0x11#8, body := .refused code, after := .nothing })
    (ItemId.ofId id = none → exec (.set l seq id v) s = refused .unknownItem) ∧
    ∀ x, ItemId.ofId id = some x →
      (x.writable = false → exec (.set l seq id v) s = refused .readOnly) ∧
      (x.writable = true → v.length ≠ x.size → exec (.set l seq id v) s = refused .badLength) ∧
      (x.writable = true → v.length = x.size →
        (s.items.write x v = none → exec (.set l seq id v) s = refused .badValue) ∧
        ∀ y, s.items.write x v = some y →
          (x = .tickPeriod → s.time.running = true → exec (.set l seq id v) s = refused .notStopped) ∧
          (∀ m, x = .linkRate m → m ≠ l → (s.links.get m).session.isSome = true → exec (.set l seq id v) s = refused .busy) ∧
          ((∀ m, x ≠ .linkRate m) → x ≠ .sessionTimeout → (x = .tickPeriod → s.time.running = false) →
            exec (.set l seq id v) s = .next (({ s with items := y } : State).answered l
              { seq := seq, kind := 0x11#8, body := .item id v, after := .nothing })))

/-- A SET of a link's own rate is taken into use once its REPLY is sent; a SET of the other link's rate, whose session is CLOSED, is taken at once if
that link's transmitter is sending nothing, else it waits for the frame on the line (R157; log 25). A SET of SESSION_TIMEOUT leaves the session that
carries it, whose timer it has restarted, and ends the other link's OPEN session when that has counted the new value already (R172; log 35). -/
def Obligations.SetOfLinkRateAndSessionTimeout : Prop :=
  ∀ (l : Link) (seq : Byte) (id : BitVec 16) (v : List Byte) (y : Items) (s : State), handlerReady s l seq = true →
    let stored : State := { s with items := y }
    (∀ m, ItemId.ofId id = some (.linkRate m) → s.items.write (.linkRate m) v = some y →
      (m = l → exec (.set l seq id v) s = .next (stored.answered l
        { seq := seq, kind := 0x11#8, body := .item id v, after := .takeRate (y.rateOf l) })) ∧
      (m ≠ l → (s.links.get m).session = none →
        ((s.links.get m).onLine = false →
          exec (.set l seq id v) s = .next
            ((stored.modLink m fun k => { k with rate := y.rateOf m, receiver := .hunt, rateDue := none }).replied l seq 0x11#8 (.item id v))) ∧
        ((s.links.get m).onLine = true →
          exec (.set l seq id v) s = .next
            ((stored.modLink m fun k => { k with rateDue := some (y.rateOf m) }).replied l seq 0x11#8 (.item id v))))) ∧
    (ItemId.ofId id = some .sessionTimeout → s.items.write .sessionTimeout v = some y →
      let other := s.links.get (otherLink l)
      (other.session = none ∨ y.sessionTimeout = 0 ∨ other.sinceGood < y.sessionTimeout →
        exec (.set l seq id v) s = .next (stored.replied l seq 0x11#8 (.item id v))) ∧
      (other.session ≠ none → y.sessionTimeout ≠ 0 → y.sessionTimeout ≤ other.sinceGood →
        exec (.set l seq id v) s = .next ((endSession (otherLink l) .timeout stored).replied l seq 0x11#8 (.item id v))))

/-- DEVICE-RESET is answered with the boot epoch that will follow, and is pending from then on; a KEEP_CONFIG byte that is neither 0 nor 1 is refused
(R160, R180). Once its awaited frame has been sent it is carried out, and not before (R162): every block at its reset state, the boot epoch one on
(R34), the items kept or at their defaults but for the three link items (R158), and each link CLOSED at its stored rate, with SESSION-END for the
session it had, the frame on its line going on, and its counts at 0 but for that session end (R162, R177). With no DEVICE-RESET due nothing
happens (log 1). MODEL'S CHOICE: a stretch of low line that is still going on is kept (log 20), while complete frames, waiting frames and the command
in hand are dropped (log 30) and the trigger line's awaitHigh is cleared (log 21); and the frame on the line calls for nothing more once sent, since
what it called for belonged to the part before the reset (log 24). -/
def Obligations.DeviceResetIsPendingThenCarriedOut : Prop :=
  (∀ (l : Link) (seq keep : Byte) (s : State), handlerReady s l seq = true →
    (∀ yes : Bool, keep = (if yes then 1#8 else 0#8) →
      exec (.deviceReset l seq keep) s = .next (({ s with device := .pending l yes .reply } : State).answered l
        { seq := seq, kind := 0x12#8, body := .deviceReset ((s.time.bootEpoch + 1) % 65536), after := .carryOutReset })) ∧
    (keep ≠ 0#8 → keep ≠ 1#8 →
      exec (.deviceReset l seq keep) s = .next (s.answered l { seq := seq, kind := 0x12#8, body := .refused .badValue, after := .nothing }))) ∧
  ∀ s : State, s.resetPin = false →
    (∀ l keep, s.device = .pending l keep .due →
      let items : Items := if keep then s.items
        else { Items.default with rateA := s.items.rateA, rateB := s.items.rateB, sessionTimeout := s.items.sessionTimeout }
      ∃ k : PerLink LinkState,
        exec .resetCarriedOut s = .next
          { State.reset with
            items := items
            time := { Timebase.reset with period := items.tickPeriod, bootEpoch := (s.time.bootEpoch + 1) % 65536 }
            cond := Conditioner.reset items
            links := k
            pending := s.pending } ∧
        ∀ m, k.get m =
          { LinkState.reset with
            stretch := (s.links.get m).stretch
            pendingEnd := match (s.links.get m).session with
              | some n => some (.reset, n)
              | none => (s.links.get m).pendingEnd
            rate := items.rateOf m
            counts := { LinkCounts.zero with ends := { LinkCounts.zero.ends with reset := if (s.links.get m).session.isSome then 1 else 0 } }
            tx := match (s.links.get m).tx with
              | .sending x => .sending { x with body := match x.body with
                  | .reply r => .reply { r with after := .nothing }
                  | b => b }
              | _ => .idle }) ∧
    ((∀ l keep, s.device ≠ .pending l keep .due) → exec .resetCarriedOut s = .next s)

/-! ## Snapshot, slot status, fault log -/

/-- SNAPSHOT reports the tick of the last sample worked on and each channel as it stood after it, or no sample (R25). SLOT-STATUS reports the slot
table's values and the slots asked for; another slot field is refused (R79). A slot's report is its record and its acceptance place; of an
EXTRACTING slot, S′, E′, the flags and the numbers of records and blocks are the working values of the engine that goes through its rows or has
handed its end on (R80, R85). Each changes nothing but the link that is answered; SLOT-STATUS comes after an earlier session end of the link (log 4). -/
def Obligations.SnapshotAndSlotStatusReport : Prop :=
  ∀ (l : Link) (seq : Byte) (s : State), handlerReady s l seq = true →
    (s.cond.lastTick = none → exec (.snapshot l seq) s = .next (s.replied l seq 0x22#8 (.snapshot none))) ∧
    (∀ t, s.cond.lastTick = some t → ∃ v : SnapshotValues,
      exec (.snapshot l seq) s = .next (s.replied l seq 0x22#8 (.snapshot (some v))) ∧ v.tick = t ∧
        ∀ c : Fin 48, v.levels.getLsbD c = s.cond.channels[c].level ∧ v.raws.getLsbD c = s.cond.channels[c].prevRaw
          ∧ v.chatter.getLsbD c = s.cond.channels[c].holds.chatter ∧ v.supply.getLsbD c = s.cond.channels[c].holds.supply
          ∧ v.disabled.getLsbD c = s.cond.channels[c].holds.disabled) ∧
    (s.wires.tableEnds.get l = 0 → ∀ slot : Byte,
      let report (slots : List (Fin 8)) : Host.Outcome State Fault Refusal :=
        .next (s.replied l seq 0x32#8 (.slotStatus s.tableNewest s.table.nextSerial s.table.queue s.engines.x0.worksOn s.engines.x1.worksOn
          (slots.map s.slotReport)))
      (slot = 0xFF#8 → exec (.slotStatus l seq slot) s = report [0, 1, 2, 3, 4, 5, 6, 7]) ∧
      (∀ i : Fin 8, slot.toNat = i.val → exec (.slotStatus l seq slot) s = report [i]) ∧
      (8 ≤ slot.toNat → slot ≠ 0xFF#8 → exec (.slotStatus l seq slot) s = .next (s.replied l seq 0x32#8 (.refused .badValue)))) ∧
    ∀ i : Fin 8,
      (s.slot i = none → s.slotReport i = { slot := i, capture := none, place := 0, records := 0, blocks := 0 }) ∧
      ∀ c, s.slot i = some c →
        let place := s.table.acceptance.idxOf i + 1
        let asRecorded : SlotReport := { slot := i, capture := some c, place := place, records := c.records.length, blocks := c.blocks.length }
        (c.phase ≠ .extracting → s.slotReport i = asRecorded) ∧
        (c.phase = .extracting →
          ((∀ e, (s.engines.get e).worksOn = some (i, c.serial) → ∃ r, s.engines.get e = .reading r) → s.slotReport i = asRecorded) ∧
          ∀ e w, (s.engines.get e = .working w ∨ s.engines.get e = .ending w) → w.slot = i → w.serial = c.serial →
            (e = .e1 → s.engines.x0.worksOn ≠ some (i, c.serial)) →
            s.slotReport i =
              { slot := i
                capture := some { c with effStart := w.effStart, effEnd := w.effEnd, flags := w.flags }
                place := place
                records := w.records.length
                blocks := w.blocks.length })

/-- FAULTS-READ answers with the records, the lost count and the next seq, and changes nothing in the log (R151). FAULTS-CLEAR removes from the oldest
record up to the given seq, by the distance modulo 65535, and zeroes the lost count when the log is then empty; a seq of 0, another distance, or
no records: nothing is removed (R152). -/
def Obligations.FaultsAreReadAndCleared : Prop :=
  ∀ (l : Link) (seq : Byte) (s : State), handlerReady s l seq = true →
    exec (.faultsRead l seq) s = .next (s.replied l seq 0x70#8 (.faultsRead s.faults.records s.faults.lost s.faults.nextSeq)) ∧
    ∀ upTo : BitVec 16,
      let removing (n : Nat) : Host.Outcome State Fault Refusal :=
        let left := s.faults.records.drop n
        let lost := if 0 < n ∧ left = [] then 0 else s.faults.lost
        .next (({ s with faults := { s.faults with records := left, lost := lost } } : State).replied l seq 0x71#8
          (.faultsClear n left.length lost))
      (upTo = 0#16 ∨ s.faults.records = [] → exec (.faultsClear l seq upTo) s = removing 0) ∧
      ∀ oldest rest, s.faults.records = oldest :: rest → upTo ≠ 0#16 →
        let distance := (upTo.toNat + 65535 - oldest.seq) % 65535 + 1
        (distance ≤ s.faults.records.length → exec (.faultsClear l seq upTo) s = removing distance) ∧
        (s.faults.records.length < distance → exec (.faultsClear l seq upTo) s = removing 0)

/-- The fault log takes the next faults of a reporter: each is recorded with the next seq, or counted as lost when four are held, and the FAULT
notice is set on each OPEN link (R150). A reporter that has handed on nothing changes nothing (log 1). -/
def Obligations.FaultsAreRecorded : Prop :=
  (∀ (f : FaultLog) (x : FaultReport),
    (f.records.length < 4 →
      f.record x = { f with records := f.records ++ [{ seq := f.nextSeq, report := x }], nextSeq := if f.nextSeq < 65535 then f.nextSeq + 1 else 1 }) ∧
    (4 ≤ f.records.length → f.record x = { f with lost := min 255 (f.lost + 1) })) ∧
  ∀ s : State, s.resetPin = false →
    let after (xs : List FaultReport) (w : Wires) (links : PerLink LinkState) : State :=
      { s with faults := xs.foldl FaultLog.record s.faults, wires := w, links := links }
    (∀ xs rest, s.wires.sampleFaults = xs :: rest → ∃ links,
      exec (.faultRecord .sample) s = .next (after xs { s.wires with sampleFaults := rest } links)
        ∧ ∀ l, links.get l = if (s.links.get l).session.isSome then { s.links.get l with notices := { (s.links.get l).notices with fault := true } }
          else s.links.get l) ∧
    (∀ e x rest, s.wires.engineFaults.get e = x :: rest → ∃ links,
      exec (.faultRecord (.engine e)) s = .next (after [x] { s.wires with engineFaults := s.wires.engineFaults.set e rest } links)
        ∧ ∀ l, links.get l = if (s.links.get l).session.isSome then { s.links.get l with notices := { (s.links.get l).notices with fault := true } }
          else s.links.get l) ∧
    (∀ x rest, s.wires.triggerFaults = x :: rest → ∃ links,
      exec (.faultRecord .triggerUnit) s = .next (after [x] { s.wires with triggerFaults := rest } links)
        ∧ ∀ l, links.get l = if (s.links.get l).session.isSome then { s.links.get l with notices := { (s.links.get l).notices with fault := true } }
          else s.links.get l) ∧
    (s.wires.sampleFaults = [] → exec (.faultRecord .sample) s = .next s) ∧
    (∀ e, s.wires.engineFaults.get e = [] → exec (.faultRecord (.engine e)) s = .next s) ∧
    (s.wires.triggerFaults = [] → exec (.faultRecord .triggerUnit) s = .next s)

/-! ## Runs -/

/-- START: the refusals of R29 in order; else the run state, run start tick, stop reason and period in use of R30, an empty ring (R38), the
conditioner as R22 leaves it, the RUN_START on its way to the journal, and the REPLY. MODEL'S CHOICE (log 15): a sample still on its way to
the ring is appended first, a read that the ring then holds the end tick of has its answer fixed before the rows leave (R40), and a stop still on its
way to the injector is taken. -/
def Obligations.StartBeginsARun : Prop :=
  ∀ (l : Link) (seq : Byte) (s : State), handlerReady s l seq = true →
    let refused (code : Result) : Host.Outcome State Fault Refusal := .next (s.replied l seq 0x20#8 (.refused code))
    let first := s.time.tick + 1
    (s.time.running = true → exec (.start l seq) s = refused .notStopped) ∧
    (s.time.running = false → s.time.limitReached = true → exec (.start l seq) s = refused .limit) ∧
    (s.time.running = false → s.time.limitReached = false →
      ((∃ i c, s.slot i = some c ∧ (c.phase = .armed ∨ c.phase = .queued ∨ c.phase = .extracting)) →
        exec (.start l seq) s = refused .busy) ∧
      ((∀ i c, s.slot i = some c → c.phase = .ready ∨ ∃ m, c.phase = .claimed m) →
        (∀ u, s.wires.ringIn ≠ [] → exec .ringAppend s = .next u → exec (.start l seq) s = exec (.start l seq) u) ∧
        (s.wires.ringIn = [] → ∃ cond : Conditioner,
          let fix (q : ReadRequest) : ReadRequest :=
            if q.answer = none ∧ ringReaches s.ring q.stop = true then { q with answer := some (ringAnswer s.ring q.start q.stop) } else q
          exec (.start l seq) s = .next (({ s with
            time := { s.time with running := true, runStart := some first, stopReason := .none, period := s.items.tickPeriod }
            ring := []
            cond := cond
            injector := if s.wires.injectorStop then .idle else s.injector
            wires := { s.wires with
              reads := { x0 := s.wires.reads.x0.map fix, x1 := s.wires.reads.x1.map fix }
              injectorStop := false
              journalIn := s.wires.journalIn ++ [.runStart first] } } : State).replied l seq 0x20#8 (.start first)) ∧
          cond.firstDue = true ∧ cond.lastTick = none
          ∧ (∀ g : Fin 6, cond.monitors[g] = { lost := false, absent := 0, present := 0 })
          ∧ ∀ c : Fin 48, cond.channels[c] =
              { s.cond.channels[c] with
                holds := { chatter := false, supply := false, disabled := false }
                debounce := 0
                window := none
                quiet := none
                injected := false })))

/-- STOP and the limit stop: STOPPED with the reason; limit reached at the last tick; the stop handed to the slot table, the injector, the trigger unit
and the journal with the reason and the last tick; nothing else changes (R31, R32). A STOP while STOPPED is refused; before the
last tick TICK_LIMIT_STOP changes nothing (log 1). -/
def Obligations.StopEndsARun : Prop :=
  ∀ s : State,
    let handed (reason : StopReason) : Wires :=
      { s.wires with
        slotIn := s.wires.slotIn ++ [.stop reason s.time.tick]
        injectorStop := true
        trigIn := s.wires.trigIn ++ [.stop reason s.time.tick]
        journalIn := s.wires.journalIn ++ [.stop reason s.time.tick] }
    (∀ (l : Link) (seq : Byte), handlerReady s l seq = true →
      (s.time.running = false → exec (.stop l seq) s = .next (s.replied l seq 0x21#8 (.refused .notRunning))) ∧
      (s.time.running = true → ∀ start, s.time.runStart = some start →
        exec (.stop l seq) s = .next (({ s with
          time := { s.time with
            running := false
            stopReason := .stop
            limitReached := s.time.limitReached || decide (s.time.tick = 1099511627775) }
          wires := handed .stop } : State).replied l seq 0x21#8 (.stop (if start ≤ s.time.tick then some s.time.tick else none))))) ∧
    (s.resetPin = false →
      (s.time.running = true → s.time.tick = 1099511627775 →
        exec .tickLimitStop s = .next
          { s with
            time := { s.time with running := false, stopReason := .limit, limitReached := true }
            wires := handed .limit }) ∧
      (s.time.running = false ∨ s.time.tick ≠ 1099511627775 → exec .tickLimitStop s = .next s))

/-- What the injector, the trigger unit and TEST-CANCEL do at an end: the injector becomes IDLE at a stop (no REPLY) and at a TEST-CANCEL, whose
REPLY carries the state it was in (R147); the trigger unit releases ALERT and zeroes both countdowns, and every count and the line receiver stay
(R61). With no stop to take, INJECTOR_TAKE_STOP and TRIGGER_UNIT_TAKE_STOP change nothing (log 1). -/
def Obligations.StopsReachTheInjectorAndTheTriggerUnit : Prop :=
  ∀ s : State,
    (∀ (l : Link) (seq : Byte), handlerReady s l seq = true →
      exec (.testCancel l seq) s = .next (({ s with injector := .idle } : State).replied l seq 0x61#8 (.testCancel s.injector))) ∧
    (s.resetPin = false →
      (s.wires.injectorStop = true →
        exec .injectorTakeStop s = .next { s with injector := .idle, wires := { s.wires with injectorStop := false } }) ∧
      (s.wires.injectorStop = false → exec .injectorTakeStop s = .next s) ∧
      (∀ reason tick rest, s.wires.trigIn = .stop reason tick :: rest →
        exec .triggerUnitTakeStop s = .next
          { s with
            trig := { s.trig with alert := false, alertCountdown := 0, holdoff := 0 }
            wires := { s.wires with trigIn := rest } }) ∧
      ((∀ reason tick rest, s.wires.trigIn ≠ .stop reason tick :: rest) → exec .triggerUnitTakeStop s = .next s))

/-! ## Triggers and slots -/

/-- An accepted offer of any source: the slot it asks for is EMPTY, by its number or the lowest in or outside AUTO_SLOTS (R48), its reference gives R
(R44), and the slot holds the capture of R69 with a fresh serial (R68) at the end of the acceptance list (R70), ARMED while its window's end is
later than the newest tick, else QUEUED (R49); the answer carries slot, serial, R, S and E. An accepted TRIGGER is such an offer: the TRIGGER
entry is on its way to the journal, and the REPLY carries the answer (R51). Nothing else changes. -/
def Obligations.TriggerTakesASlot : Prop :=
  (∀ (o : Offer) (i : Fin 8) (r : Int) (s : State),
    s.time.running = true → s.picks o.request i → s.slot i = none → s.refersTo o.reference r →
    let p := o.pre.getD s.items.windows[i].pre
    let q := o.post.getD s.items.windows[i].post
    r ≤ s.tableCurrent + 65535 → s.tableFloor ≤ r + (q : Int) → p ≤ 2047 → q ≤ 2047 →
    let serial := freshSerial s.table.serials 8 s.table.nextSerial
    let later : Bool := match s.tableNewest with
      | none => true
      | some t => decide ((t : Int) < r + (q : Int))
    takeOffer o s =
      ({ s with
          table := { s.table with
            slots := s.table.slots.set i (some
              { phase := if later then .armed else .queued
                serial := serial
                source := o.source
                label := o.label
                ref := r
                pre := p
                post := q
                effStart := r - (p : Int)
                effEnd := r + (q : Int)
                flags := Flags.empty
                records := []
                blocks := []
                initial := none
                fetch := none })
            acceptance := s.table.acceptance ++ [i]
            nextSerial := next65535 serial
            queue := if later then s.table.queue else s.table.queue ++ [i] } },
        .accepted i serial r (r - (p : Int)) (r + (q : Int)))) ∧
  ∀ (l : Link) (seq slot kind : Byte) (tick : BitVec 40) (pre post label : BitVec 16) (i : Fin 8) (r : Int) (s : State),
    handlerReady s l seq = true → s.time.running = true → s.asksFor slot i → s.slot i = none → s.formsRef kind tick r →
    let p := sideOr pre s.items.windows[i].pre
    let q := sideOr post s.items.windows[i].post
    r ≤ s.tableCurrent + 65535 → s.tableFloor ≤ r + (q : Int) → p ≤ 2047 → q ≤ 2047 →
    let serial := freshSerial s.table.serials 8 s.table.nextSerial
    let later : Bool := match s.tableNewest with
      | none => true
      | some t => decide ((t : Int) < r + (q : Int))
    let source : Source := match l with
      | .A => .linkA
      | .B => .linkB
    let capture : Capture :=
      { phase := if later then .armed else .queued
        serial := serial
        source := source
        label := label.toNat
        ref := r
        pre := p
        post := q
        effStart := r - (p : Int)
        effEnd := r + (q : Int)
        flags := Flags.empty
        records := []
        blocks := []
        initial := none
        fetch := none }
    exec (.trigger l seq slot kind tick pre post label) s = .next (({ s with
        table := { s.table with
          slots := s.table.slots.set i (some capture)
          acceptance := s.table.acceptance ++ [i]
          nextSerial := next65535 serial
          queue := if later then s.table.queue else s.table.queue ++ [i] }
        wires := { s.wires with
          triggerEntries := s.wires.triggerEntries ++ [{ kind := .trigger i serial source, test := false }] } } : State).replied l seq 0x30#8
            (.trigger i serial r (r - (p : Int)) (r + (q : Int)))) ∧
      (SlotLaw s.table → 1 ≤ serial ∧ serial ≤ 65535 ∧ ∀ j c, s.slot j = some c → c.serial ≠ serial)

/-- The refusals of an offer of any source in the order of R47, with the slot it had been given by then (R58), and the same seen through TRIGGER: a
refused one changes no slot and no serial, makes no entry and moves no counter (R51). -/
def Obligations.OffersAreRefusedInOrder : Prop :=
  (∀ (o : Offer) (s : State),
    let refused (code : Result) (at' : Option (Fin 8)) : Prop := takeOffer o s = (s, .refused code at')
    (s.time.running = false → refused .notRunning none) ∧
    (s.time.running = true →
      (∀ n, o.request = .numbered n → 8 ≤ n → refused .badValue none) ∧
      (o.request = .any → (∀ j, s.slot j = none → s.items.autoSlots.getLsbD j = true) → refused .noSlot none) ∧
      (o.request = .auto → (∀ j, s.slot j = none → s.items.autoSlots.getLsbD j = false) → refused .noSlot none) ∧
      ∀ i, s.picks o.request i →
        (s.slot i ≠ none → refused .slotBusy (some i)) ∧
        (s.slot i = none →
          (o.reference = .unknown → refused .badValue (some i)) ∧
          ∀ r, s.refersTo o.reference r →
            let p := o.pre.getD s.items.windows[i].pre
            let q := o.post.getD s.items.windows[i].post
            (s.tableCurrent + 65535 < r → refused .tooFar (some i)) ∧
            (r ≤ s.tableCurrent + 65535 →
              (r + (q : Int) < s.tableFloor → refused .windowGone (some i)) ∧
              (s.tableFloor ≤ r + (q : Int) → 2047 < p ∨ 2047 < q → refused .badValue (some i)))))) ∧
  ∀ (l : Link) (seq slot kind : Byte) (tick : BitVec 40) (pre post label : BitVec 16) (s : State), handlerReady s l seq = true →
    let refused (code : Result) : Prop :=
      exec (.trigger l seq slot kind tick pre post label) s = .next (s.replied l seq 0x30#8 (.refused code))
    (s.time.running = false → refused .notRunning) ∧
    (s.time.running = true →
      (8 ≤ slot.toNat → slot ≠ 0xFF#8 → refused .badValue) ∧
      (slot = 0xFF#8 → (∀ j, s.slot j = none → s.items.autoSlots.getLsbD j = true) → refused .noSlot) ∧
      ∀ i, s.asksFor slot i →
        (s.slot i ≠ none → refused .slotBusy) ∧
        (s.slot i = none →
          (3 ≤ kind.toNat → refused .badValue) ∧
          ∀ r, s.formsRef kind tick r →
            let p := sideOr pre s.items.windows[i].pre
            let q := sideOr post s.items.windows[i].post
            (s.tableCurrent + 65535 < r → refused .tooFar) ∧
            (r ≤ s.tableCurrent + 65535 →
              (r + (q : Int) < s.tableFloor → refused .windowGone) ∧
              (s.tableFloor ≤ r + (q : Int) → 2047 < p ∨ 2047 < q → refused .badValue))))

/-- ABORT: the refusals of R75 in order; else the slot is EMPTY, off the acceptance list and the extraction queue, each engine that holds its slot and
serial is told to drop it when it was EXTRACTING, its blocks go back to the pool, and both readout units are told (R67, R76). Nothing else
changes. -/
def Obligations.AbortEmptiesTheSlot : Prop :=
  ∀ (l : Link) (seq slot force : Byte) (s : State), handlerReady s l seq = true → s.wires.tableEnds.get l = 0 →
    let refused (code : Result) : Prop := exec (.abort l seq slot force) s = .next (s.replied l seq 0x31#8 (.refused code))
    (1 < force.toNat ∨ 7 < slot.toNat → refused .badValue) ∧
    ∀ i : Fin 8, slot.toNat = i.val → force.toNat ≤ 1 →
      (s.slot i = none → refused .noCapture) ∧
      ∀ c, s.slot i = some c →
        (c.phase = .claimed (otherLink l) → force = 0#8 → refused .claimed) ∧
        ((c.phase = .claimed (otherLink l) → force = 1#8) →
          let order (e : Engine) : List (Fin 8 × Nat) :=
            if c.phase = .extracting ∧ (s.engines.get e).worksOn = some (i, c.serial) then s.wires.drops.get e ++ [(i, c.serial)]
            else s.wires.drops.get e
          exec (.abort l seq slot force) s = .next (({ s with
            table := { s.table with
              slots := s.table.slots.set i none
              acceptance := s.table.acceptance.erase i
              queue := if c.phase = .queued then s.table.queue.erase i else s.table.queue }
            wires := { s.wires with
              drops := { x0 := order .e0, x1 := order .e1 }
              tableReturns := if c.blocks = [] then s.wires.tableReturns else s.wires.tableReturns ++ [c.blocks]
              readoutIn := { a := s.wires.readoutIn.a ++ [.abort i c.serial], b := s.wires.readoutIn.b ++ [.abort i c.serial] } } } :
                State).replied l seq 0x31#8 (.abort i c.serial c.phase)))

/-- RELEASE: the refusals of R118 in order; else the slot is EMPTY and off the acceptance list, its blocks go back to the pool, the REPLY gives their
number, and both readout units are told (R67, R119). Nothing else changes: no journal entry, no notice. -/
def Obligations.ReleaseEmptiesTheSlot : Prop :=
  ∀ (l : Link) (seq slot : Byte) (serial : BitVec 16) (s : State), handlerReady s l seq = true → s.wires.tableEnds.get l = 0 →
    let refused (code : Result) : Prop := exec (.release l seq slot serial) s = .next (s.replied l seq 0x41#8 (.refused code))
    (7 < slot.toNat ∨ serial = 0#16 → refused .badValue) ∧
    ∀ i : Fin 8, slot.toNat = i.val → serial ≠ 0#16 →
      (s.slot i = none → refused .noCapture) ∧
      ∀ c, s.slot i = some c →
        (c.serial ≠ serial.toNat → refused .stale) ∧
        (c.serial = serial.toNat →
          (c.phase ≠ .claimed l → refused .notHolder) ∧
          (c.phase = .claimed l →
            exec (.release l seq slot serial) s = .next (({ s with
              table := { s.table with slots := s.table.slots.set i none, acceptance := s.table.acceptance.erase i }
              wires := { s.wires with
                tableReturns := if c.blocks = [] then s.wires.tableReturns else s.wires.tableReturns ++ [c.blocks]
                readoutIn := { a := s.wires.readoutIn.a ++ [.release i c.serial], b := s.wires.readoutIn.b ++ [.release i c.serial] } } } :
                  State).replied l seq 0x41#8 (.release i c.serial c.blocks.length))))

/-- FETCH: the refusals of R106 and R107 in order; PENDING records the pending fetch and reserves a place; QUEUED appends a delivery entry, and with
claim a READY slot becomes CLAIMED by the link (R107, R108). Nothing else changes. No hand-off of an ended session, and none of the slot table's to
the readout unit, is on its way (log 4, log 5). -/
def Obligations.FetchWaitsOrQueues : Prop :=
  ∀ (l : Link) (seq slot claim fromPart : Byte) (s : State), handlerReady s l seq = true → s.wires.tableEnds.get l = 0 →
    s.wires.readoutEnds.get l = 0 → s.wires.readoutIn.get l = [] →
    let refused (code : Result) : Prop := exec (.fetch l seq slot claim fromPart) s = .next (s.replied l seq 0x40#8 (.refused code))
    let q := s.readouts.get l
    (7 < slot.toNat ∨ 1 < claim.toNat ∨ 18 < fromPart.toNat → refused .badValue) ∧
    ∀ i : Fin 8, slot.toNat = i.val → claim.toNat ≤ 1 → fromPart.toNat ≤ 18 →
      let named : Prop := (∃ n k, QueueEntry.delivery i n k ∈ q.queue) ∨ ∃ d, q.current = some d ∧ d.slot = i
      (named → refused .alreadyQueued) ∧
      (¬ named →
        (8 ≤ q.queue.length + q.reserved.length → refused .busy) ∧
        (q.queue.length + q.reserved.length < 8 →
          (s.slot i = none → refused .noCapture) ∧
          ∀ c, s.slot i = some c →
            (c.phase.finished = false → c.fetch ≠ none → refused .fetchPending) ∧
            (c.phase.finished = false → c.fetch = none →
              exec (.fetch l seq slot claim fromPart) s = .next (({ s with
                table := { s.table with
                  slots := s.table.slots.set i
                    (some { c with fetch := some { link := l, claim := claim == 1#8, fromPart := fromPart.toNat } }) }
                readouts := s.readouts.set l { q with reserved := q.reserved ++ [(i, c.serial)] } } : State).replied l seq 0x40#8
                  (.fetchPending i c.serial c.phase))) ∧
            (c.phase = .claimed (otherLink l) → claim = 1#8 → refused .claimed) ∧
            (c.phase.finished = true → (c.phase = .claimed (otherLink l) → claim = 0#8) →
              let phase : Phase := if c.phase = .ready ∧ claim = 1#8 then .claimed l else c.phase
              exec (.fetch l seq slot claim fromPart) s = .next (({ s with
                table := { s.table with slots := s.table.slots.set i (some { c with phase := phase }) }
                readouts := s.readouts.set l { q with queue := q.queue ++ [.delivery i c.serial fromPart.toNat] } } : State).replied l seq 0x40#8
                  (.fetchQueued i c.serial phase c.records.length ((c.records.length + 55) / 56)
                    (q.queue.length + if q.current.isSome then 1 else 0))))))

/-! ## Journal commands -/

/-- JOURNAL-SUBSCRIBE, JOURNAL-REWIND and JOURNAL-UNSUBSCRIBE: their refusals; a new record at the oldest entry or after the newest (R135); a cursor
back at the acknowledged position + 1 with nothing in flight (R138); a record removed, with the removal against the record that remains, or none
(R133, R139). No hand-off of an ended session of the link is on its way to the journal (log 4). -/
def Obligations.SubscribersComeRewindAndGo : Prop :=
  ∀ (l : Link) (seq : Byte) (s : State), handlerReady s l seq = true → s.journalEndDue l = false →
    let j := s.journal
    (∀ position : Byte,
      let x : Subscriber :=
        { acked := if position = 0#8 then wrap32 (j.oldest + 4294967295) else wrap32 (j.nextSeq + 4294967295)
          cursor := if position = 0#8 then j.oldest else j.nextSeq
          inFlight := none }
      (1 < position.toNat → exec (.journalSubscribe l seq position) s = .next (s.replied l seq 0x50#8 (.refused .badValue))) ∧
      (position.toNat ≤ 1 → j.subs.get l ≠ none →
        exec (.journalSubscribe l seq position) s = .next (s.replied l seq 0x50#8 (.refused .alreadySubscribed))) ∧
      (position.toNat ≤ 1 → j.subs.get l = none →
        exec (.journalSubscribe l seq position) s = .next (({ s with journal := { j with subs := j.subs.set l (some x) } } : State).replied l seq
          0x50#8 (.subscribe x.acked x.cursor j.oldest (wrap32 (j.nextSeq + 4294967295)) j.entries.length j.lossCount)))) ∧
    (j.subs.get l = none →
      exec (.journalRewind l seq) s = .next (s.replied l seq 0x52#8 (.refused .notSubscribed)) ∧
      exec (.journalUnsubscribe l seq) s = .next (s.replied l seq 0x53#8 (.refused .notSubscribed))) ∧
    ∀ x, j.subs.get l = some x →
      exec (.journalRewind l seq) s = .next (({ s with
          journal := { j with subs := j.subs.set l (some { x with cursor := wrap32 (x.acked + 1), inFlight := none }) } } : State).replied l seq
            0x52#8 (.rewind (wrap32 (x.acked + 1)))) ∧
      (j.subs.get (otherLink l) = none →
        exec (.journalUnsubscribe l seq) s = .next (({ s with journal := { j with subs := { a := none, b := none } } } : State).replied l seq
          0x53#8 (.unsubscribe 0))) ∧
      ∀ y, j.subs.get (otherLink l) = some y →
        let n := min (j.distance y.acked) j.entries.length
        exec (.journalUnsubscribe l seq) s = .next (({ s with
            journal := ({ j with subs := j.subs.set l none } : Journal).afterRemoval n s.journalNow } : State).replied l seq
              0x53#8 (.unsubscribe n))

/-- JOURNAL-ACK: refused without a record, and for a seq that is not after the acknowledged position and before the cursor; else the position moves,
and the entries that every subscriber has acknowledged are removed, with a LOSS entry for what was lost (R133, R137). -/
def Obligations.AckRemovesWhatAllHaveAcknowledged : Prop :=
  ∀ (l : Link) (seq : Byte) (upTo : BitVec 32) (s : State), handlerReady s l seq = true → s.journalEndDue l = false →
    let j := s.journal
    let refused (code : Result) : Prop := exec (.journalAck l seq upTo) s = .next (s.replied l seq 0x51#8 (.refused code))
    (j.subs.get l = none → refused .notSubscribed) ∧
    ∀ x, j.subs.get l = some x →
      (¬ (j.distance x.acked < j.distance upTo.toNat ∧ j.distance upTo.toNat < j.distance x.cursor) → refused .badValue) ∧
      (j.distance x.acked < j.distance upTo.toNat → j.distance upTo.toNat < j.distance x.cursor →
        let lowest := match j.subs.get (otherLink l) with
          | none => j.distance upTo.toNat
          | some y => min (j.distance upTo.toNat) (j.distance y.acked)
        let n := min lowest j.entries.length
        let left := ({ j with subs := j.subs.set l (some { x with acked := upTo.toNat }) } : Journal).afterRemoval n s.journalNow
        exec (.journalAck l seq upTo) s = .next (({ s with journal := left } : State).replied l seq 0x51#8 (.ack upTo.toNat n left.oldest)))

/-! ## Test injection -/

/-- TEST: the refusals of R144 in order; else a test run from the sample after the last one worked on, with its first and last injected tick, in
DELAY or at once in its first high phase. A TEST that names a slot makes its offer first, and the offer's refusal is the TEST's (R62, R144). -/
def Obligations.TestBeginsARun : Prop :=
  ∀ (l : Link) (seq : Byte) (channels : Bitmap) (delay width gap : BitVec 16) (count slot : Byte) (trigDelay label : BitVec 16) (s : State),
    handlerReady s l seq = true →
    let row := Instr.test l seq channels delay width gap count slot trigDelay label
    let refused (code : Result) : Prop := exec row s = .next (s.replied l seq 0x60#8 (.refused code))
    let fits : Prop := channels ≠ 0#48 ∧ 1 ≤ width.toNat ∧ width.toNat ≤ 4095 ∧ 1 ≤ gap.toNat ∧ gap.toNat ≤ 4095 ∧ count ≠ 0#8
      ∧ (slot.toNat ≤ 7 ∨ slot = 0xFF#8)
    (¬ fits → refused .badValue) ∧
    (fits →
      (s.injector ≠ .idle → refused .testBusy) ∧
      (s.injector = .idle → s.time.running = false → refused .notRunning) ∧
      (s.injector = .idle → s.time.running = true →
        let first := s.nextSampleTick + delay.toNat
        let last := first + count.toNat * width.toNat + (count.toNat - 1) * gap.toNat - 1
        let begun (trigger : Option (Fin 8 × Nat)) : Injector :=
          let run : TestRun :=
            { channels := channels
              width := width.toNat
              gap := gap.toNat
              count := count.toNat
              label := label.toNat
              trigger := trigger
              first := first
              last := last }
          if delay = 0#16 then .injecting run 1 true width.toNat else .delay run delay.toNat
        (slot = 0xFF#8 → exec row s = .next (({ s with injector := begun none } : State).replied l seq 0x60#8 (.test first last none))) ∧
        ∀ i : Fin 8, slot.toNat = i.val →
          let offered := takeOffer
            { source := .test
              request := .numbered i.val
              reference := .ahead trigDelay.toNat
              pre := none
              post := none
              label := label.toNat
              test := true } s
          (∀ code at', offered.2 = .refused code at' → refused code) ∧
          ∀ n serial r a b, offered.2 = .accepted n serial r a b →
            exec row s = .next (({ s with
              table := offered.1.table
              injector := begun (some (n, serial))
              wires := { s.wires with testEntries := s.wires.testEntries ++ [{ kind := .trigger n serial .test, test := true }] } } :
                State).replied l seq 0x60#8 (.test first last (some (n, serial, r, a, b))))))

/-! ## Samples -/

/-- Making a sample: none while STOPPED or past the last tick (R28, R32; log 1); else the tick counter advances, the conditioner and the injector work
on it (R4, R145), and the conditioned sample is handed to the ring, which has appended the one before by then (R37; log 36), the journal, the
trigger unit and the slot table, with a fault for each SUPPLY_LOST (R20, R21). Changes come in channel order with the fields of R20, supply events
in group order. The injected mark is set, cleared or kept as R7 says. The first sample of a run only establishes levels and DISABLED (R23). Nothing
else changes. -/
def Obligations.SampleIsMade : Prop :=
  ∀ (pins : Bitmap) (senses : GroupSet) (s : State), s.resetPin = false →
    (s.time.running = false ∨ 1099511627775 ≤ s.time.tick → exec (.sample pins senses) s = .next s) ∧
    (s.time.running = true → s.time.tick < 1099511627775 →
      let tick := s.time.tick + 1
      let c := s.conditioned pins senses tick
      let cond := s.sampledCond pins senses tick
      let lost := c.events.filter (·.lost)
      let covered (i : Fin 48) : Prop := ∃ run pulse high remaining, s.injector = .injecting run pulse high remaining ∧ run.channels.getLsbD i = true
      (∀ u, s.wires.ringIn ≠ [] → exec .ringAppend s = .next u → exec (.sample pins senses) s = exec (.sample pins senses) u) ∧
      (s.wires.ringIn = [] → exec (.sample pins senses) s = .next
        { s with
          time := { s.time with tick := tick }
          cond := cond
          injector := s.injector.advance
          wires := { s.wires with
            ringIn := [c]
            journalIn := s.wires.journalIn ++ [.sample c]
            trigIn := s.wires.trigIn ++ [.sample c]
            slotIn := s.wires.slotIn ++ [.sample c]
            sampleFaults := if lost = [] then s.wires.sampleFaults
              else s.wires.sampleFaults ++ [lost.map fun e => { kind := .supplyLost e.group, tick := tick }] } }) ∧
      c.tick = tick ∧ cond.firstDue = false ∧ cond.lastTick = some tick ∧
      (c.test = true ↔ ∃ run pulse high remaining, s.injector = .injecting run pulse high remaining) ∧
      (c.changes.map (·.channel)).Pairwise (· ≤ ·) ∧ (c.events.map (·.group)).Pairwise (· < ·) ∧
      (∀ x ∈ c.changes, (x.test = true ↔ s.cond.channels[x.channel].injected = true ∨ covered x.channel)
        ∧ x.journal = (s.recordOf x.channel).journal ∧ x.alert = (s.recordOf x.channel).alert ∧ x.auto = (s.recordOf x.channel).auto) ∧
      (∀ i : Fin 48, c.levels.getLsbD i = cond.channels[i].level ∧ c.held.getLsbD i = cond.channels[i].holds.any
        ∧ cond.channels[i].prevRaw = s.rawAt pins i ∧ cond.channels[i].record = s.recordOf i ∧ cond.channels[i].profile = s.profileOf i) ∧
      (∀ i : Fin 48,
        let settled : Prop := cond.channels[i].holds = { chatter := false, supply := false, disabled := false }
          ∧ cond.channels[i].level = s.rawAt pins i ∧ cond.channels[i].debounce = 0
        (covered i → cond.channels[i].injected = true) ∧
        (¬ covered i → settled → cond.channels[i].injected = false) ∧
        (¬ covered i → ¬ settled → cond.channels[i].injected = s.cond.channels[i].injected)) ∧
      (s.cond.firstDue = true → c.events = [] ∧ c.changes = [] ∧ (∀ g : Fin 6, cond.monitors[g] = s.cond.monitors[g]) ∧
        ∀ i : Fin 48, cond.channels[i].level = s.rawAt pins i
          ∧ cond.channels[i].holds = { chatter := false, supply := false, disabled := !(s.recordOf i).enabled }))

/-- A channel in live processing: its level follows a raw value held for the debounce count, with a RISE or FALL (R8). A channel whose invert field,
profile number or profile has changed begins it with a debounce count of 0 and its window closed, and the record and profile of its items are in
use from this sample on (R5). DEBOUNCE_COMPLETE is the sample at which the level follows, and is nothing where it does not (log 6). -/
def Obligations.LevelFollowsAfterDebounce : Prop :=
  ∀ (i : Fin 48) (pins : Bitmap) (senses : GroupSet) (s : State), s.liveNext senses i →
    let ch := s.cond.channels[i]
    let p := s.profileOf i
    let raw := s.rawAt pins i
    let after := s.channelAfter pins senses i
    let affected : Bool := (s.recordOf i).invert != ch.record.invert || (s.recordOf i).profile != ch.record.profile || p != ch.profile
    let debounce := if affected then 0 else ch.debounce
    (after.record = s.recordOf i ∧ after.profile = p) ∧
    (raw = ch.level → after.level = ch.level ∧ after.debounce = 0 ∧ s.changesAt pins senses i = [] ∧ (affected = true → after.window = none)
      ∧ exec (.debounceComplete i pins senses) s = .next s) ∧
    (raw ≠ ch.level →
      (debounce + 1 ≠ p.debounce →
        after.level = ch.level ∧ after.debounce = debounce + 1 ∧ s.changesAt pins senses i = [] ∧ (affected = true → after.window = none)
          ∧ exec (.debounceComplete i pins senses) s = .next s) ∧
      (debounce + 1 = p.debounce →
        exec (.debounceComplete i pins senses) s = .next (makeSample pins senses s) ∧ after.level = raw ∧ after.debounce = 0
          ∧ (s.changesAt pins senses i).head? = some (if raw then .rise else .fall)
          ∧ (p.chatterLimit = 0 → s.changesAt pins senses i = [if raw then .rise else .fall] ∧ after.window = none
              ∧ after.holds.any = false)
          ∧ (affected = true → 2 ≤ p.chatterLimit → s.changesAt pins senses i = [if raw then .rise else .fall]
              ∧ after.window = some { remaining := p.chatterWindow, count := 1 } ∧ after.holds.any = false)))

/-- The chatter window and the CHATTER hold (R9, R10, R11): a transition opens a window or is counted in it; the one that brings the count to the limit
holds the channel; the window runs out at every sample without a transition, one at which the debounce count rises included, and closes; a channel
that CHATTER alone goes on holding reports nothing (R17); the quiet countdown restarts at a change of the raw value and at its end
CHATTER goes, with a LIVE where no other reason stays (R19). The countdown of a channel whose record or profile has changed goes on from where it
stood, and where only the invert field changed the previous raw is inverted with it (R5; log 14); a profile with a chatter limit of 0 takes CHATTER
away at once (R5, R11). The two expiry rows are the samples at which a window or a countdown runs out (log 6). -/
def Obligations.ChatterHoldsAndReleases : Prop :=
  ∀ (i : Fin 48) (pins : Bitmap) (senses : GroupSet) (s : State),
    let ch := s.cond.channels[i]
    let r := s.recordOf i
    let p := s.profileOf i
    let raw := s.rawAt pins i
    let after := s.channelAfter pins senses i
    let kind : ChangeKind := if raw then .rise else .fall
    let affected : Bool := r.invert != ch.record.invert || r.profile != ch.record.profile || p != ch.profile
    let debounce := if affected then 0 else ch.debounce
    let window := if affected then none else ch.window
    let prev : Bool := if r.invert != ch.record.invert && r.profile == ch.record.profile && p == ch.profile then !ch.prevRaw else ch.prevRaw
    (s.liveNext senses i →
      (∀ w, window = some w → w.remaining = 1 →
        exec (.chatterWindowExpiry i pins senses) s = .next (makeSample pins senses s) ∧ (raw = ch.level ∨ debounce + 1 ≠ p.debounce → after.window = none)) ∧
      (∀ w, window = some w → 2 ≤ w.remaining →
        exec (.chatterWindowExpiry i pins senses) s = .next s ∧
          (raw = ch.level ∨ debounce + 1 ≠ p.debounce → after.window = some { w with remaining := w.remaining - 1 })) ∧
      (window = none → exec (.chatterWindowExpiry i pins senses) s = .next s ∧
        (raw = ch.level ∨ debounce + 1 ≠ p.debounce → after.window = none)) ∧
      (raw ≠ ch.level → debounce + 1 = p.debounce → 2 ≤ p.chatterLimit →
        ((window = none ∨ ∃ w, window = some w ∧ w.remaining = 1) →
          after.window = some { remaining := p.chatterWindow, count := 1 } ∧ after.holds.any = false ∧ s.changesAt pins senses i = [kind]) ∧
        ∀ w, window = some w → 2 ≤ w.remaining →
          (w.count + 1 ≠ p.chatterLimit →
            after.window = some { remaining := w.remaining - 1, count := w.count + 1 } ∧ after.holds.any = false
              ∧ s.changesAt pins senses i = [kind]) ∧
          (w.count + 1 = p.chatterLimit →
            after.window = none ∧ after.quiet = some p.chatterQuiet ∧ after.level = raw
              ∧ after.holds = { chatter := true, supply := false, disabled := false }
              ∧ s.changesAt pins senses i = [kind, .hold .chatter]))) ∧
    (s.laterSample → ch.holds.chatter = true →
      let alone : Prop := r.enabled = true ∧ (s.monitorSample senses (groupOf i)).1.lost = false
      let freed : Prop := alone →
        after.holds.any = false ∧ after.level = raw ∧ s.changesAt pins senses i = [.live raw (raw != ch.level)]
      (p.chatterLimit = 0 → after.holds.chatter = false ∧ after.quiet = none ∧ freed ∧ exec (.quietCountdownExpiry i pins senses) s = .next s) ∧
      (p.chatterLimit ≠ 0 → raw ≠ prev → after.holds.chatter = true ∧ after.quiet = some p.chatterQuiet ∧ after.level = ch.level
        ∧ (alone → s.changesAt pins senses i = []) ∧ exec (.quietCountdownExpiry i pins senses) s = .next s) ∧
      (p.chatterLimit ≠ 0 → raw = prev →
        (∀ q, ch.quiet = some q → 2 ≤ q →
          after.holds.chatter = true ∧ after.quiet = some (q - 1) ∧ after.level = ch.level
            ∧ (alone → s.changesAt pins senses i = []) ∧ exec (.quietCountdownExpiry i pins senses) s = .next s) ∧
        (ch.quiet = some 1 →
          exec (.quietCountdownExpiry i pins senses) s = .next (makeSample pins senses s) ∧ after.holds.chatter = false ∧ after.quiet = none
            ∧ freed)))

/-- A monitored group is LOST after SUPPLY_LOSS_TICKS samples without supply and OK after SUPPLY_RETURN_TICKS samples with it, with its events, and
no other sample reports an event of the group; an unmonitored group is OK (R13 to R16). SUPPLY holds the group's channels exactly while it is LOST, and DISABLED a channel whose enabled field is no:
each reason that is new brings one HOLD, SUPPLY before DISABLED, the level stays, and a channel that was live forgets its debounce count and its
window (R17, R18). A channel freed from its last reason takes up its raw value with a LIVE (R19). SUPPLY_LOST and SUPPLY_BACK are the samples at
which a group's status changes (log 6). -/
def Obligations.SupplyLossHoldsItsGroup : Prop :=
  ∀ (g : Fin 6) (pins : Bitmap) (senses : GroupSet) (s : State), s.laterSample →
    let m := s.cond.monitors[g]
    let after := s.monitorAfter pins senses g
    let events := (s.conditioned pins senses (s.time.tick + 1)).events
    let ok : Monitor := { lost := false, absent := 0, present := 0 }
    (∀ i : Fin 48, i.val / 8 = g.val →
      let ch := s.cond.channels[i]
      let next := s.channelAfter pins senses i
      let disabled : Bool := !(s.recordOf i).enabled
      next.holds.supply = after.lost ∧ next.holds.disabled = disabled ∧
      (after.lost = true ∨ disabled = true →
        next.level = ch.level ∧ (ch.holds.any = false → next.debounce = 0 ∧ next.window = none) ∧
          s.changesAt pins senses i =
            (if after.lost = true ∧ ch.holds.supply = false then [.hold .supply] else [])
              ++ (if disabled = true ∧ ch.holds.disabled = false then [.hold .disabled] else [])) ∧
      (after.lost = false → disabled = false → ch.holds.chatter = false → ch.holds.supply = true ∨ ch.holds.disabled = true →
        next.holds.any = false ∧ next.level = s.rawAt pins i ∧ next.debounce = 0 ∧ next.window = none ∧ next.quiet = none ∧
          s.changesAt pins senses i = [.live (s.rawAt pins i) (s.rawAt pins i != ch.level)])) ∧
    events.filter (fun e => e.group == g) = (if after.lost = m.lost then [] else [{ group := g, lost := after.lost }]) ∧
    (s.items.supplyMonitor.getLsbD g = false → after = ok ∧ (m.lost = true → { group := g, lost := false } ∈ events)) ∧
    (s.items.supplyMonitor.getLsbD g = true →
      (m.lost = false →
        exec (.supplyBack g pins senses) s = .next s ∧
        (senses.getLsbD g = true → after = { m with absent := 0 } ∧ exec (.supplyLost g pins senses) s = .next s) ∧
        (senses.getLsbD g = false →
          (m.absent + 1 < s.items.supplyLossTicks →
            after = { m with absent := m.absent + 1 } ∧ exec (.supplyLost g pins senses) s = .next s) ∧
          (s.items.supplyLossTicks ≤ m.absent + 1 →
            exec (.supplyLost g pins senses) s = .next (makeSample pins senses s) ∧ after = { ok with lost := true }
              ∧ { group := g, lost := true } ∈ events))) ∧
      (m.lost = true →
        exec (.supplyLost g pins senses) s = .next s ∧
        (senses.getLsbD g = false → after = { m with present := 0 } ∧ exec (.supplyBack g pins senses) s = .next s) ∧
        (senses.getLsbD g = true →
          (m.present + 1 < s.items.supplyReturnTicks →
            after = { m with present := m.present + 1 } ∧ exec (.supplyBack g pins senses) s = .next s) ∧
          (s.items.supplyReturnTicks ≤ m.present + 1 →
            exec (.supplyBack g pins senses) s = .next (makeSample pins senses s) ∧ after = ok ∧ { group := g, lost := false } ∈ events))))

/-- The injector at a sample: its delay counts down and injection begins after it reaches 0 (R145); while INJECTING the covered channels have the phase's
level as raw value (R6), and phases follow each other until the last pulse ends the run (R146). TEST_DELAY_EXPIRY and TEST_PHASE_EXPIRY are
the samples at which that comes about (log 6). -/
def Obligations.InjectionCountsDown : Prop :=
  ∀ (pins : Bitmap) (senses : GroupSet) (s : State), s.resetPin = false → s.samples = true →
    let after := (makeSample pins senses s).injector
    let test := (s.conditioned pins senses (s.time.tick + 1)).test
    (s.injector = .idle → after = .idle ∧ test = false) ∧
    (∀ run, s.injector = .delay run 1 →
      exec (.testDelayExpiry pins senses) s = .next (makeSample pins senses s) ∧ after = .injecting run 1 true run.width ∧ test = false) ∧
    (∀ run n, s.injector = .delay run n → 2 ≤ n →
      exec (.testDelayExpiry pins senses) s = .next s ∧ after = .delay run (n - 1) ∧ test = false) ∧
    ∀ run pulse high n, s.injector = .injecting run pulse high n →
      test = true ∧ (∀ i : Fin 48, s.rawAt pins i = if run.channels.getLsbD i then high else pins.getLsbD i ^^ (s.recordOf i).invert) ∧
      (2 ≤ n → exec (.testPhaseExpiry pins senses) s = .next s ∧ after = .injecting run pulse high (n - 1)) ∧
      (n = 1 → exec (.testPhaseExpiry pins senses) s = .next (makeSample pins senses s) ∧
        (high = false → after = .injecting run (pulse + 1) true run.width) ∧
        (high = true → pulse < run.count → after = .injecting run pulse false run.gap) ∧
        (high = true → run.count ≤ pulse → after = .idle))

/-- The ring takes the next sample: its row goes in after the newest, the oldest leaving first when 4096 are held, and a read that waited for it has its
answer fixed (R36, R37, R40, R42): the oldest available tick, which is R39's, and the rows of the range in the ring's order. A read whose end tick the
ring has reached is taken without waiting, and an answer once fixed stays (R40; log 12). With no sample on its way nothing happens (log 1). A row is damaged exactly when its stored check code is not the
code of its other fields (R41; log 8). An upset makes an intact row of its tick damaged and changes no other row (R41; what it leaves stored is
free, and an upset that leaves every field matching is none, log 9). Nothing else changes. -/
def Obligations.RingAppendsAndRowsAreDamaged : Prop :=
  (∀ r : Row, r.damaged = true ↔ r.check ≠ Config.rowCheckCode r.tick r.levels r.held r.test) ∧
  (∀ (rows : List Row) (q : ReadRequest),
    (ringReaches rows q.stop = true ↔ ∃ newest, rows.getLast? = some newest ∧ q.stop ≤ (newest.tick : Int)) ∧
    (∀ a, q.answer = some a → q.take rows = some a) ∧
    (q.answer = none → q.take rows = if ringReaches rows q.stop then some (ringAnswer rows q.start q.stop) else none)) ∧
  (∀ (rows : List Row) (start stop : Int),
    let answer := ringAnswer rows start stop
    (∀ oldest rest, rows = oldest :: rest → answer.oldest = oldest.tick) ∧
    answer.rows.map (·.tick) = (rows.map (·.tick)).filter fun t : Nat => decide (start ≤ (t : Int) ∧ (t : Int) ≤ stop)) ∧
  (∀ (s : State) (start : Nat) (oldest newest : Row), RingLaw s.time s.ring s.wires.ringIn → s.time.runStart = some start →
    s.ring.head? = some oldest → s.ring.getLast? = some newest → oldest.tick = max start (newest.tick - 4095)) ∧
  ∀ s : State, s.resetPin = false →
    (s.wires.ringIn = [] → exec .ringAppend s = .next s) ∧
    (∀ c rest, s.wires.ringIn = c :: rest → ∃ row : Row,
      row.tick = c.tick ∧ row.levels = c.levels ∧ row.held = c.held ∧ row.test = c.test
        ∧ row.check = Config.rowCheckCode c.tick c.levels c.held c.test ∧ row.damaged = false ∧
      let rows := (if s.ring.length < 4096 then s.ring else s.ring.tail) ++ [row]
      let fix (q : ReadRequest) : ReadRequest :=
        if q.answer = none ∧ ringReaches s.ring q.stop = false ∧ q.stop ≤ (c.tick : Int) then { q with answer := some (ringAnswer rows q.start q.stop) }
        else q
      exec .ringAppend s = .next
        { s with
          ring := rows
          wires := { s.wires with ringIn := rest, reads := { x0 := s.wires.reads.x0.map fix, x1 := s.wires.reads.x1.map fix } } }) ∧
    (∀ rows start stop x, x ∈ (ringAnswer rows start stop).rows ↔
      ∃ r ∈ rows, start ≤ (r.tick : Int) ∧ (r.tick : Int) ≤ stop ∧ x.tick = r.tick
        ∧ x.content = if r.damaged then none else some ({ levels := r.levels, held := r.held }, r.test)) ∧
    ∀ tick levels held test syndrome, ∃ struck : Row → Row,
      exec (.rowDamage tick levels held test syndrome) s = .next { s with ring := s.ring.map struck } ∧
      (∀ r, r.tick ≠ tick ∨ r.damaged = true ∨ syndrome = 0 → struck r = r) ∧
      ∀ r, r.tick = tick → r.damaged = false → syndrome ≠ 0 →
        let left := struck r
        left.damaged = true ∧ left.tick = tick ∧ left.levels = levels ∧ left.held = held ∧ left.test = test
          ∧ left.check ≠ Config.rowCheckCode tick levels held test

/-! ## The journal, the trigger unit and the slot table -/

/-- The journal makes the entries of what it takes next: a sample's supply events, then its journal-enabled changes, each of its own kind with the
sample's tick and its test flag, in order (R128), RUN_START and RUN_STOP (R129), a TRIGGER or TRIGGER_REFUSED with its current tick (R130). Each is
appended, the oldest leaving first in history mode after a LOSS entry that is due (R131), or lost when a subscribed journal is full (R132).
Nothing else changes. -/
def Obligations.JournalEntersWhatItTakes : Prop :=
  (∀ (j : Journal) (now : Nat) (e : NewEntry),
    let entered (k : Journal) (x : NewEntry) : Journal :=
      { k with
        entries := (if k.entries.length < 1024 then k.entries else k.entries.tail) ++
          [{ seq := k.nextSeq, kind := x.kind, tick := x.tick, test := x.test }]
        nextSeq := nextSeq32 k.nextSeq }
    let loss : NewEntry := { kind := .loss j.lossCount (j.firstLost.getD 0) (j.lastLost.getD 0), tick := now, test := false }
    (j.subscribed = true → j.entries.length < 1024 → j.append now e = entered j e) ∧
    (j.subscribed = true → 1024 ≤ j.entries.length → j.append now e =
      { j with
        lossCount := min 4294967295 (j.lossCount + 1)
        firstLost := if j.lossCount = 0 then some e.tick else j.firstLost
        lastLost := some e.tick }) ∧
    (j.subscribed = false → j.lossCount = 0 → j.append now e = entered j e) ∧
    (j.subscribed = false → j.lossCount ≠ 0 →
      j.append now e = entered { entered j loss with lossCount := 0, firstLost := none, lastLost := none } e)) ∧
  ∀ s : State, s.resetPin = false →
    let taking (rest : List TimeMessage) (j : Journal) : Host.Outcome State Fault Refusal :=
      .next { s with journal := j, wires := { s.wires with journalIn := rest } }
    (∀ c rest, s.wires.journalIn = .sample c :: rest →
      let seen : State := { s with journal := { s.journal with lastTick := some c.tick } }
      let ofEvent (v : SupplyEvent) : NewEntry :=
        { kind := if v.lost then .supplyLost v.group else .supplyBack v.group, tick := c.tick, test := false }
      let ofChange (x : Change) : NewEntry :=
        { kind := match x.kind with
            | .rise => .rise x.channel
            | .fall => .fall x.channel
            | .hold reason => .hold x.channel reason
            | .live level ret => .live x.channel level ret
          tick := c.tick
          test := x.test }
      let entries := c.events.map ofEvent ++ (c.changes.filter (·.journal)).map ofChange
      exec .journalTakeSample s = taking rest (entries.foldl (fun j e => j.append seen.journalNow e) seen.journal)) ∧
    (∀ tick rest, s.wires.journalIn = .runStart tick :: rest →
      exec .journalRunStart s = taking rest (s.journal.append s.journalNow { kind := .runStart, tick := tick, test := false })) ∧
    (∀ reason tick rest, s.wires.journalIn = .stop reason tick :: rest →
      exec .journalRunStop s = taking rest (s.journal.append s.journalNow { kind := .runStop reason, tick := tick, test := false })) ∧
    (∀ x rest, s.wires.triggerEntries = x :: rest →
      exec (.journalTakeTriggerEntry .triggerUnit) s = .next
        { s with
          journal := s.journal.append s.journalNow { kind := x.kind, tick := s.journalNow, test := x.test }
          wires := { s.wires with triggerEntries := rest } }) ∧
    ∀ x rest, s.wires.testEntries = x :: rest →
      exec (.journalTakeTriggerEntry .injector) s = .next
        { s with
          journal := s.journal.append s.journalNow { kind := x.kind, tick := s.journalNow, test := x.test }
          wires := { s.wires with testEntries := rest } }

/-- The trigger unit works through its next sample: both countdowns first; then each alert transition restarts the alert countdown, counts, and is put
into the pending ALERT notice of each OPEN link with the count so far, the last channel and the last tick; ALERT follows the countdown (R56, R59,
R60). Each auto transition, in channel order, is held off and counted while the holdoff runs, or makes one offer, answered as R58 says before the next
transition, and starts the holdoff (R57). Nothing else changes. ALERT_COUNTDOWN_EXPIRY is the sample that brings a running countdown to 0 (log 6). -/
def Obligations.TriggerUnitWorksThroughASample : Prop :=
  ∀ (s : State) (c : Conditioned) (rest : List TimeMessage), s.resetPin = false → s.wires.trigIn = .sample c :: rest →
    let alerts := c.changes.filter fun x => (x.kind == .rise || x.kind == .fall) && x.alert
    let autos := c.changes.filter fun x => (x.kind == .rise || x.kind == .fall) && x.auto
    let countdown := if alerts = [] then s.trig.alertCountdown - 1 else s.items.alertWidth
    let counted : State := { s with trig := { s.trig with holdoff := s.trig.holdoff - 1 }, wires := { s.wires with trigIn := rest } }
    let attempt (t : State) (x : Change) : State :=
      if t.trig.holdoff ≠ 0 then { t with trig := { t.trig with autoHeldOff := wrap32 (t.trig.autoHeldOff + 1) } }
      else
        let offered := takeOffer
          { source := .auto
            request := .auto
            reference := .absolute c.tick
            pre := none
            post := none
            label := x.channel.val
            test := x.test } t
        let tried : TriggerUnit := { t.trig with holdoff := s.items.autoHoldoff }
        let entering (k : EntryKind) : Wires := { t.wires with triggerEntries := t.wires.triggerEntries ++ [{ kind := k, test := x.test }] }
        match offered.2 with
        | .accepted i serial _ _ _ =>
          { t with
            table := offered.1.table
            trig := { tried with autoAccepted := wrap32 (t.trig.autoAccepted + 1) }
            wires := entering (.trigger i serial .auto) }
        | .refused code at' =>
          if code = .noSlot then
            { t with
              trig := { tried with autoMissed := wrap32 (t.trig.autoMissed + 1) }
              wires := { entering (.triggerRefused .auto none) with
                triggerFaults := t.wires.triggerFaults ++ [{ kind := .autoMissed x.channel, tick := c.tick }] } }
          else if code = .notRunning then { t with trig := { tried with autoIgnored := wrap32 (t.trig.autoIgnored + 1) } }
          else
            { t with
              trig := { tried with autoRefused := wrap32 (t.trig.autoRefused + 1) }
              wires := entering (.triggerRefused .auto at') }
    let after := autos.foldl attempt counted
    ∃ k : PerLink LinkState,
      let t : State :=
        { after with
          trig := { after.trig with
            alertCountdown := countdown
            alert := decide (countdown ≠ 0) && (s.trig.alert || decide (alerts ≠ []))
            alertTransitions := if alerts = [] then s.trig.alertTransitions else wrap32 (s.trig.alertTransitions + alerts.length) }
          links := k }
      exec .triggerUnitTakeSample s = .next t ∧
      (∀ l, ((s.links.get l).session = none ∨ alerts = [] → k.get l = s.links.get l) ∧
        ∀ n x, (s.links.get l).session = some n → alerts.getLast? = some x →
          k.get l =
            { s.links.get l with
              notices := { (s.links.get l).notices with
                alert := some
                  { count := min 65535 (((s.links.get l).notices.alert.map (·.count)).getD 0 + alerts.length)
                    channel := x.channel
                    tick := c.tick } } }) ∧
      (s.trig.alertCountdown ≠ 0 → countdown = 0 → exec .alertCountdownExpiry s = .next t) ∧
      (s.trig.alertCountdown = 0 ∨ countdown ≠ 0 → exec .alertCountdownExpiry s = .next s)

/-- The trigger line: a start bit (R52, with the line's own state of log 21); a word judged for its stop bit, its parity and whether the line is in use,
and then offered (R53); the slot table's answer to the offer (R43, R47); and what the trigger unit makes of the answer (R54). Nothing else
changes; a word while no word is being received, and an offer or an answer to be taken where none is on its way, change nothing at all (log 1). -/
def Obligations.TriggerLineOffersItsWords : Prop :=
  ∀ s : State, s.resetPin = false →
    (∀ stillLow wasHigh,
      (s.trig.receiving = true → exec (.lineStartBit stillLow wasHigh) s = .next s) ∧
      (s.trig.receiving = false → (s.trig.awaitHigh = false ∨ wasHigh = true) →
        exec (.lineStartBit stillLow wasHigh) s = .next { s with trig := { s.trig with receiving := stillLow, awaitHigh := false } }) ∧
      (s.trig.receiving = false → s.trig.awaitHigh = true → wasHigh = false →
        exec (.lineStartBit stillLow wasHigh) s = .next { s with trig := { s.trig with receiving := false, awaitHigh := stillLow } })) ∧
    (∀ bits : BitVec 13,
      let ones := ((List.range 12).filter fun k => bits.getLsbD k).length
      let idle : TriggerUnit := { s.trig with receiving := false }
      (s.trig.receiving = false → exec (.lineWord bits) s = .next s) ∧
      (s.trig.receiving = true →
        (bits.getLsbD 12 = false → exec (.lineWord bits) s = .next
          { s with trig := { idle with awaitHigh := true, lineFraming := wrap32 (s.trig.lineFraming + 1) } }) ∧
        (bits.getLsbD 12 = true → ones % 2 = 0 → exec (.lineWord bits) s = .next
          { s with trig := { idle with lineParity := wrap32 (s.trig.lineParity + 1) } }) ∧
        (bits.getLsbD 12 = true → ones % 2 = 1 → (s.items.lineEnable = false ∨ s.time.running = false) →
          exec (.lineWord bits) s = .next { s with trig := { idle with lineIgnored := wrap32 (s.trig.lineIgnored + 1) } }) ∧
        (bits.getLsbD 12 = true → ones % 2 = 1 → s.items.lineEnable = true → s.time.running = true →
          exec (.lineWord bits) s = .next
            { s with
              trig := idle
              wires := { s.wires with
                lineOffers := s.wires.lineOffers ++
                  [{ source := .line
                     request := .numbered (bits.toNat % 8)
                     reference := .lagged
                     pre := none
                     post := none
                     label := bits.toNat / 8 % 256
                     test := false }] } }))) ∧
    (s.wires.lineOffers = [] → exec .slotTableOffer s = .next s) ∧
    (∀ o rest, s.wires.lineOffers = o :: rest →
      exec .slotTableOffer s = .next
        { s with
          table := (takeOffer o s).1.table
          wires := { s.wires with lineOffers := rest, lineAnswers := s.wires.lineAnswers ++ [(o, (takeOffer o s).2)] } }) ∧
    (s.wires.lineAnswers = [] → exec .lineAnswer s = .next s) ∧
    ∀ o a rest, s.wires.lineAnswers = (o, a) :: rest →
      let left : Wires := { s.wires with lineAnswers := rest }
      let entering (k : EntryKind) : Wires := { left with triggerEntries := s.wires.triggerEntries ++ [{ kind := k, test := false }] }
      (∀ i serial r x y, a = .accepted i serial r x y →
        exec .lineAnswer s = .next
          { s with trig := { s.trig with lineAccepted := wrap32 (s.trig.lineAccepted + 1) }, wires := entering (.trigger i serial .line) }) ∧
      (∀ at', a = .refused .notRunning at' →
        exec .lineAnswer s = .next { s with trig := { s.trig with lineIgnored := wrap32 (s.trig.lineIgnored + 1) }, wires := left }) ∧
      ∀ code at' (n : Fin 8), a = .refused code at' → code ≠ .notRunning → o.request = .numbered n.val →
        exec .lineAnswer s = .next
          { s with
            trig := { s.trig with lineRefused := wrap32 (s.trig.lineRefused + 1) }
            wires := entering (.triggerRefused .line (some n)) }

/-- The slot table takes a sample: its tick, and every ARMED slot whose window's end it reaches goes to the extraction queue, in acceptance order (R72).
It takes a stop: every ARMED slot is cut at the last tick recorded, and goes to the queue where rows of its window were recorded, else is READY, its
pending fetch applied and told to both readout units (R73, R109). No other slot and no other block changes. -/
def Obligations.SlotTableTakesSamplesAndStops : Prop :=
  ∀ s : State, s.resetPin = false →
    (∀ c rest, s.wires.slotIn = .sample c :: rest →
      let due := s.table.select fun k => k.phase == .armed && decide (k.ref + (k.post : Int) ≤ (c.tick : Int))
      ∃ slots, exec .slotTableTakeSample s = .next
          { s with
            table := { s.table with slots := slots, lastTick := some c.tick, queue := s.table.queue ++ due }
            wires := { s.wires with slotIn := rest } } ∧
        ∀ i : Fin 8, slots[i] = if i ∈ due then (s.slot i).map (fun k => { k with phase := .queued }) else s.slot i) ∧
    ∀ reason tick rest, s.wires.slotIn = .stop reason tick :: rest →
      let newest := s.tableNewest
      let recorded (k : Capture) : Bool := match newest with
        | some t => decide (k.ref - (k.pre : Int) ≤ (t : Int))
        | none => false
      let cutAt (k : Capture) : Int := match newest with
        | some t => (t : Int)
        | none => k.ref - (k.pre : Int) - 1
      let cut (k : Capture) : Capture :=
        let marked : Capture := { k with flags := { k.flags with stopped := true }, effEnd := cutAt k }
        if recorded k then { marked with phase := .queued }
        else
          { marked with
            phase := if k.fetch.any (·.claim) then .claimed ((k.fetch.map (·.link)).getD .A) else .ready
            fetch := none }
      let armed := s.table.select fun k => k.phase == .armed
      let unrecorded := s.table.select fun k => k.phase == .armed && !recorded k
      let news := unrecorded.filterMap fun i => (s.slot i).map fun k => ReadoutMessage.ready i k.serial k.source k.fetch
      ∃ slots, exec .slotTableTakeStop s = .next
          { s with
            table := { s.table with
              slots := slots
              queue := s.table.queue ++ s.table.select (fun k => k.phase == .armed && recorded k) }
            wires := { s.wires with
              slotIn := rest
              readoutIn := { a := s.wires.readoutIn.a ++ news, b := s.wires.readoutIn.b ++ news } } } ∧
        ∀ i : Fin 8, slots[i] = if i ∈ armed then (s.slot i).map cut else s.slot i

/-! ## Extraction and the pool -/

/-- The head of the extraction queue goes to an IDLE engine, engine 0 first; the slot is EXTRACTING, and the engine asks the ring for the ticks S to E′
(R86, R87). With no head or no IDLE engine nothing happens (log 1). -/
def Obligations.EngineTakesTheHeadOfTheQueue : Prop :=
  ∀ s : State, s.resetPin = false →
    (s.table.queue = [] ∨ (s.engines.x0 ≠ .idle ∧ s.engines.x1 ≠ .idle) → exec .engineTakeSlot s = .next s) ∧
    ∀ i rest c e, s.table.queue = i :: rest → s.slot i = some c → s.engines.get e = .idle → (e = .e1 → s.engines.x0 ≠ .idle) →
      let start := c.ref - (c.pre : Int)
      exec .engineTakeSlot s = .next
        { s with
          table := { s.table with slots := s.table.slots.set i (some { c with phase := .extracting }), queue := rest }
          engines := s.engines.set e (.reading
            { slot := i, serial := c.serial, ref := c.ref, start := start, stop := c.effEnd, flags := c.flags })
          wires := { s.wires with
            reads := s.wires.reads.set e (s.wires.reads.get e ++
              [{ slot := i, serial := c.serial, start := start, stop := c.effEnd, answer := none }]) } }

/-- The begin of an extraction with the ring's fixed answer: S′ and the flags EARLY and OVERRUN of the clip (R88); damaged rows from S′ on move S′ and
are faults; the first intact row is the initial state and first baseline and may set TEST_SEEN (R89, R92); the rows after it wait. A read
the ring cannot take yet begins nothing (R40, R87). -/
def Obligations.ExtractionBeginsWithTheRingsAnswer : Prop :=
  ∀ (e : Engine) (r : Reading) (s : State), s.resetPin = false → s.engines.get e = .reading r →
    let isFor (q : ReadRequest) : Bool := q.slot == r.slot && q.serial == r.serial
    ((∀ q, (s.wires.reads.get e).find? isFor = some q → q.take s.ring = none) → exec (.extractionBegin e) s = .next s) ∧
    ∀ q a, (s.wires.reads.get e).find? isFor = some q → q.take s.ring = some a →
      let runStart := s.time.runStart.getD 1
      let start := max r.start (a.oldest : Int)
      let rows := a.rows.filter fun x => decide (start ≤ (x.tick : Int)) && decide ((x.tick : Int) ≤ r.stop)
      let damaged := rows.takeWhile fun x => x.content.isNone
      let left := rows.drop damaged.length
      ∃ w : Working,
        exec (.extractionBegin e) s = .next
          { s with
            engines := s.engines.set e (.working w)
            wires := { s.wires with
              reads := s.wires.reads.set e ((s.wires.reads.get e).eraseP isFor)
              engineFaults := s.wires.engineFaults.set e (s.wires.engineFaults.get e ++
                damaged.map fun x => { kind := .rowCheck r.slot r.serial, tick := x.tick }) } } ∧
        w.slot = r.slot ∧ w.serial = r.serial ∧ w.ref = r.ref ∧ w.records = [] ∧ w.blocks = [] ∧ w.placing = none ∧
        w.effStart = start + damaged.length ∧ w.effEnd = r.stop ∧ w.rows = left.tail ∧
        (w.flags.early = true ↔ r.flags.early = true ∨ (r.start < start ∧ r.start < (runStart : Int))) ∧
        (w.flags.overrun = true ↔ r.flags.overrun = true ∨ (r.start < start ∧ runStart < a.oldest) ∨ r.stop < start) ∧
        (w.flags.rowError = true ↔ r.flags.rowError = true ∨ damaged ≠ []) ∧
        w.flags.stopped = r.flags.stopped ∧ w.flags.full = r.flags.full ∧ w.flags.poolShort = r.flags.poolShort ∧
        (left = [] → w.initial = none ∧ w.baseline = none ∧ w.flags.testSeen = r.flags.testSeen) ∧
        ∀ x rest levels test, left = x :: rest → x.content = some (levels, test) →
          w.initial = some levels ∧ w.baseline = some levels ∧ w.flags.testSeen = (r.flags.testSeen || test)

/-- A row against its baseline (R90 to R94): the records of each channel, once each, channels ascending and within a channel LIVE, then RISE or FALL,
then HOLD; a damaged row is a fault; an intact one is placed, cuts the capture at FULL, or waits for a block asked of the pool. The pool grants a
free block or refuses (R101; which block is log 11), and the engine places the row, asks again, or cuts the capture at POOL_SHORT with a fault.
Nothing else changes. MODEL'S CHOICE (log 13): the marker of the row at which the capture is cut short counts for TEST_SEEN. -/
def Obligations.RowsBecomeRecords : Prop :=
  (∀ (before after : RowLevels) (offset : Int),
    let rank (k : RecordKind) : Nat := match k with
      | .live => 0
      | .rise => 1
      | .fall => 1
      | .hold => 2
    (rowRecords before after offset).Pairwise (fun x y => x.channel < y.channel ∨ (x.channel = y.channel ∧ rank x.kind < rank y.kind)) ∧
    ∀ x : CaptureRecord, x ∈ rowRecords before after offset ↔ x.offset = offset ∧ match x.kind with
      | .live => before.held.getLsbD x.channel = true ∧ after.held.getLsbD x.channel = false
      | .rise => before.levels.getLsbD x.channel = false ∧ after.levels.getLsbD x.channel = true
      | .fall => before.levels.getLsbD x.channel = true ∧ after.levels.getLsbD x.channel = false
      | .hold => before.held.getLsbD x.channel = false ∧ after.held.getLsbD x.channel = true) ∧
  ∀ (e : Engine) (s : State), s.resetPin = false →
    (∀ pick q rest, s.wires.blockRequests.get e = q :: rest →
      let answering (block : Option Nat) : Wires :=
        { s.wires with
          blockRequests := s.wires.blockRequests.set e rest
          blockAnswers := s.wires.blockAnswers.set e (s.wires.blockAnswers.get e ++
            [{ slot := q.slot, serial := q.serial, block := block }]) }
      (s.pool = [] → exec (.blockRequest e pick) s = .next { s with wires := answering none }) ∧
      ∀ b, s.pool[pick % s.pool.length]? = some b → exec (.blockRequest e pick) s = .next
        { s with pool := s.pool.eraseIdx (pick % s.pool.length), wires := answering (some b) }) ∧
    ∀ w, s.engines.get e = .working w →
      let put (u : Working) (wires : Wires) : Host.Outcome State Fault Refusal :=
        .next { s with engines := s.engines.set e (.working u), wires := wires }
      let faulting (x : Wires) (f : FaultReport) : Wires := { x with engineFaults := x.engineFaults.set e (x.engineFaults.get e ++ [f]) }
      let asking (x : Wires) : Wires :=
        { x with blockRequests := x.blockRequests.set e (x.blockRequests.get e ++ [{ slot := w.slot, serial := w.serial }]) }
      (w.placing = none → ∀ r rest, w.rows = r :: rest →
        (r.content = none → exec (.extractionRow e) s =
          put { w with rows := rest, flags := { w.flags with rowError := true } }
            (faulting s.wires { kind := .rowCheck w.slot w.serial, tick := r.tick })) ∧
        ∀ levels test base, r.content = some (levels, test) → w.baseline = some base →
          let p := rowRecords base levels ((r.tick : Int) - w.ref)
          let total := w.records.length + p.length
          let seen : Working := { w with rows := rest, flags := { w.flags with testSeen := w.flags.testSeen || test } }
          (p = [] → exec (.extractionRow e) s = put { seen with baseline := some levels } s.wires) ∧
          (p ≠ [] → 1024 < total → exec (.extractionRow e) s =
            put { seen with flags := { seen.flags with full := true }, effEnd := (r.tick : Int) - 1, rows := [] } s.wires) ∧
          (p ≠ [] → total ≤ 1024 → (total + 31) / 32 ≤ w.blocks.length → exec (.extractionRow e) s =
            put { seen with records := w.records ++ p, baseline := some levels } s.wires) ∧
          (p ≠ [] → total ≤ 1024 → w.blocks.length < (total + 31) / 32 → exec (.extractionRow e) s =
            put { seen with placing := some { tick := r.tick, content := levels, records := p } } (asking s.wires))) ∧
      ∀ p a rest, w.placing = some p → s.wires.blockAnswers.get e = a :: rest → a.slot = w.slot → a.serial = w.serial →
        let received : Wires := { s.wires with blockAnswers := s.wires.blockAnswers.set e rest }
        let total := w.records.length + p.records.length
        (a.block = none → exec (.blockAnswer e) s =
          put { w with flags := { w.flags with poolShort := true }, effEnd := (p.tick : Int) - 1, rows := [], placing := none }
            (faulting received { kind := .poolExhausted w.slot w.serial, tick := p.tick })) ∧
        ∀ b, a.block = some b → p.records ≠ [] → total ≤ 1024 →
          let held : Working := { w with blocks := w.blocks ++ [b] }
          ((total + 31) / 32 ≤ w.blocks.length + 1 → exec (.blockAnswer e) s =
            put { held with records := w.records ++ p.records, baseline := some p.content, placing := none } received) ∧
          (w.blocks.length + 1 < (total + 31) / 32 → exec (.blockAnswer e) s = put held (asking received))

/-- The end of an extraction: the engine trims its blocks and hands the end on (R95); the slot table, while the slot is EXTRACTING under the serial,
takes over the result, applies a pending fetch and tells both readout units; else the blocks go back to the pool. The engine is IDLE (R96, R109).
EXTRACTION_END with a row left to deal with changes nothing (log 1). -/
def Obligations.ExtractionEndsInACapture : Prop :=
  ∀ (e : Engine) (w : Working) (s : State), s.resetPin = false →
    (s.engines.get e = .working w →
      ((w.rows ≠ [] ∨ w.placing ≠ none) → exec (.extractionEnd e) s = .next s) ∧
      (w.rows = [] → w.placing = none →
        let kept := (w.records.length + 31) / 32
        exec (.extractionEnd e) s = .next
          { s with
            engines := s.engines.set e (.ending { w with blocks := w.blocks.take kept })
            wires := if w.blocks.drop kept = [] then s.wires
              else { s.wires with engineReturns := s.wires.engineReturns.set e (s.wires.engineReturns.get e ++ [w.blocks.drop kept]) } })) ∧
    (s.engines.get e = .ending w →
      (∀ c, s.slot w.slot = some c → c.phase = .extracting → c.serial = w.serial →
        let capture : Capture :=
          { c with
            phase := if c.fetch.any (·.claim) then .claimed ((c.fetch.map (·.link)).getD .A) else .ready
            effStart := w.effStart
            effEnd := w.effEnd
            flags := w.flags
            initial := w.initial
            records := w.records
            blocks := w.blocks
            fetch := none }
        let news : ReadoutMessage := .ready w.slot c.serial c.source c.fetch
        exec (.extractionEndTaken e) s = .next
          { s with
            table := { s.table with slots := s.table.slots.set w.slot (some capture) }
            engines := s.engines.set e .idle
            wires := { s.wires with readoutIn := { a := s.wires.readoutIn.a ++ [news], b := s.wires.readoutIn.b ++ [news] } } }) ∧
      ((∀ c, s.slot w.slot = some c → c.phase ≠ .extracting ∨ c.serial ≠ w.serial) →
        exec (.extractionEndTaken e) s = .next
          { s with
            engines := s.engines.set e .idle
            wires := { s.wires with
              tableReturns := if w.blocks = [] then s.wires.tableReturns else s.wires.tableReturns ++ [w.blocks] } }))

/-- Dropped work and returned blocks: an order to drop finds the engine on its slot and serial or not (R97); a grant for work not in hand goes straight
back, and a ring answer for work not in hand is discarded (R98); the pool takes back what it is handed (R102). Nothing else changes. A refusal
for work not in hand is discarded too (log 27). -/
def Obligations.DroppedWorkGivesItsBlocksBack : Prop :=
  ∀ (e : Engine) (s : State), s.resetPin = false →
    let returning (blocks : List Nat) : PerEngine (List (List Nat)) :=
      if blocks = [] then s.wires.engineReturns else s.wires.engineReturns.set e (s.wires.engineReturns.get e ++ [blocks])
    (∀ i n rest, s.wires.drops.get e = (i, n) :: rest →
      let left : Wires := { s.wires with drops := s.wires.drops.set e rest }
      (∀ r, s.engines.get e = .reading r → r.slot = i → r.serial = n →
        exec (.engineDrop e) s = .next { s with engines := s.engines.set e .idle, wires := left }) ∧
      (∀ w, s.engines.get e = .working w → w.slot = i → w.serial = n →
        exec (.engineDrop e) s = .next
          { s with engines := s.engines.set e .idle, wires := { left with engineReturns := returning w.blocks } }) ∧
      (((∃ w, s.engines.get e = .ending w) ∨ (s.engines.get e).worksOn ≠ some (i, n)) →
        exec (.engineDrop e) s = .next { s with wires := left })) ∧
    (∀ a rest, s.wires.blockAnswers.get e = a :: rest → (s.engines.get e).worksOn ≠ some (a.slot, a.serial) →
      exec (.lateEngineAnswer e .grant) s = .next
        { s with wires := { s.wires with
            blockAnswers := s.wires.blockAnswers.set e rest
            engineReturns := returning a.block.toList } }) ∧
    (∀ q before after a, s.wires.reads.get e = before ++ q :: after → (∀ x ∈ before, s.lateRead e x = false) →
      (s.engines.get e).worksOn ≠ some (q.slot, q.serial) → q.take s.ring = some a →
      exec (.lateEngineAnswer e .ringRead) s = .next
        { s with wires := { s.wires with reads := s.wires.reads.set e (before ++ after) } }) ∧
    (∀ blocks rest, s.wires.tableReturns = blocks :: rest →
      exec (.poolReturn .slotTable) s = .next { s with pool := s.pool ++ blocks, wires := { s.wires with tableReturns := rest } }) ∧
    ∀ blocks rest, s.wires.engineReturns.get e = blocks :: rest →
      exec (.poolReturn (.engine e)) s = .next
        { s with pool := s.pool ++ blocks, wires := { s.wires with engineReturns := s.wires.engineReturns.set e rest } }

/-! ## Readout units and session ends -/

/-- A readout unit takes what the slot table hands it: READY news turns a place reserved for its own link's fetch into a delivery entry and is announced
as R110 says; a slot READY again is announced (R121); an abort and a release cut the deliveries of their slot and serial, and an abort ends a
reserved place with ABORTED (R77, R117). Announcing needs an OPEN session (R174; log 28). -/
def Obligations.ReadoutUnitsTakeNews : Prop :=
  ∀ (l : Link) (s : State), s.resetPin = false →
    let q := s.readouts.get l
    let taken (rest : List ReadoutMessage) (q : Readout) : State :=
      { s with readouts := s.readouts.set l q, wires := { s.wires with readoutIn := s.wires.readoutIn.set l rest } }
    let announced (i : Fin 8) (k : LinkState) : LinkState :=
      if k.session.isSome then { k with notices := { k.notices with slotReady := some (k.notices.slotReady.getD 0 ||| (1#8 <<< i.val)) } } else k
    let cutEntry (i : Fin 8) (n : Nat) (x : QueueEntry) : QueueEntry := match x with
      | .delivery j m from' => if j = i ∧ m = n then .cutEnding i n else .delivery j m from'
      | x => x
    let cut (i : Fin 8) (n : Nat) : Readout :=
      { q with
        queue := q.queue.map (cutEntry i n)
        current := q.current.map fun d => if d.slot = i ∧ d.serial = n then { d with next := .ending .cut } else d }
    (∀ i n source fetch rest, s.wires.readoutIn.get l = .ready i n source fetch :: rest →
      let own : Bool := fetch.any (·.link == l)
      let q' : Readout := if own ∧ (i, n) ∈ q.reserved then
          { q with reserved := q.reserved.erase (i, n), queue := q.queue ++ [.delivery i n ((fetch.map (·.fromPart)).getD 0)] }
        else q
      let forLink : Prop :=
        own = true ∨ source = .line ∨ source = .auto ∨ source = .test ∨ (source = .linkA ∧ l = .A) ∨ (source = .linkB ∧ l = .B)
      (forLink → exec (.readoutTakeReady l) s = .next ((taken rest q').modLink l (announced i))) ∧
      (¬ forLink → exec (.readoutTakeReady l) s = .next (taken rest q'))) ∧
    (∀ i rest, s.wires.readoutIn.get l = .readyAgain i :: rest →
      exec (.readoutTakeReady l) s = .next ((taken rest q).modLink l (announced i))) ∧
    (∀ i n rest, s.wires.readoutIn.get l = .release i n :: rest → exec (.readoutTakeRelease l) s = .next (taken rest (cut i n))) ∧
    ∀ i n rest, s.wires.readoutIn.get l = .abort i n :: rest →
      exec (.readoutTakeAbort l) s = .next (taken rest (if (i, n) ∈ q.reserved then
          { cut i n with reserved := q.reserved.erase (i, n), queue := (cut i n).queue ++ [.abortedEnding i n] }
        else cut i n))

/-- The three blocks take the end of a link's session: the slot table returns its claims to READY, in acceptance order for the other link's readout unit,
and drops its pending fetches (R121); its readout unit is as after a reset (R122); the journal removes its subscriber record, with the removal of
R133 against the record that remains (R140). With no end on its way SLOT_TABLE_TAKE_SESSION_END and READOUT_TAKE_SESSION_END change nothing
(log 1). -/
def Obligations.SessionEndsAreTaken : Prop :=
  ∀ (l : Link) (s : State), s.resetPin = false →
    (s.wires.tableEnds.get l = 0 → exec (.slotTableTakeSessionEnd l) s = .next s) ∧
    (s.wires.tableEnds.get l ≠ 0 →
      let again := s.table.select fun c => c.phase == .claimed l
      ∃ slots, exec (.slotTableTakeSessionEnd l) s = .next
          { s with
            table := { s.table with slots := slots }
            wires := { s.wires with
              tableEnds := s.wires.tableEnds.set l (s.wires.tableEnds.get l - 1)
              readoutIn := s.wires.readoutIn.set (otherLink l) (s.wires.readoutIn.get (otherLink l) ++ again.map .readyAgain) } } ∧
        ∀ i : Fin 8, slots[i] = (s.slot i).map fun c =>
          { c with
            phase := if c.phase = .claimed l then .ready else c.phase
            fetch := c.fetch.filter fun f => f.link != l }) ∧
    (s.wires.readoutEnds.get l = 0 → exec (.readoutTakeSessionEnd l) s = .next s) ∧
    (s.wires.readoutEnds.get l ≠ 0 → exec (.readoutTakeSessionEnd l) s = .next
      { s with
        readouts := s.readouts.set l { queue := [], reserved := [], current := none }
        wires := { s.wires with readoutEnds := s.wires.readoutEnds.set l (s.wires.readoutEnds.get l - 1) } }) ∧
    ∀ rest, s.wires.journalLinkIn.get l = .sessionEnd :: rest →
      let j := s.journal
      let taking (j : Journal) : Host.Outcome State Fault Refusal :=
        .next { s with journal := j, wires := { s.wires with journalLinkIn := s.wires.journalLinkIn.set l rest } }
      (j.subs.get l = none → exec (.journalTakeSessionEnd l) s = taking j) ∧
      (j.subs.get l ≠ none → j.subs.get (otherLink l) = none →
        exec (.journalTakeSessionEnd l) s = taking { j with subs := { a := none, b := none } }) ∧
      ∀ y, j.subs.get l ≠ none → j.subs.get (otherLink l) = some y →
        exec (.journalTakeSessionEnd l) s = taking
          (({ j with subs := j.subs.set l none } : Journal).afterRemoval (min (j.distance y.acked) j.entries.length) s.journalNow)

/-! ## Links -/

/-- The receiver, character by character: HUNT for `$C3`, a length up to 240, SEQ, KIND, the body, two check bytes, and a complete frame; a longer length,
a gap and a low stop bit return it to HUNT and are counted, a stretch of low line once (R165, R167; log 20). Nothing else changes. A gap while the
receiver hunts, and a low stop bit within a stretch already counted, change nothing (log 1). -/
def Obligations.ReceiverTakesCharacters : Prop :=
  ∀ (l : Link) (s : State), s.resetPin = false →
    let k := s.links.get l
    (∀ c : Byte,
      let goes (r : Receiver) : Prop := exec (.characterReceived l c) s = .next (s.modLink l fun k => { k with receiver := r, stretch := .high })
      (k.receiver = .hunt → goes (if c = 0xC3#8 then .awaitLen else .hunt)) ∧
      (k.receiver = .awaitLen → c.toNat ≤ 240 → goes (.awaitSeq c)) ∧
      (k.receiver = .awaitLen → 240 < c.toNat →
        exec (.characterReceived l c) s = .next (s.modLink l fun k =>
          { k with
            receiver := .hunt
            stretch := .high
            counts := { k.counts with length := wrap32 (k.counts.length + 1) } })) ∧
      (∀ len, k.receiver = .awaitSeq len → goes (.awaitKind len c)) ∧
      (∀ len seq, k.receiver = .awaitKind len seq → goes (if len.toNat = 0 then .check len seq c [] none else .body len seq c [])) ∧
      (∀ len seq kind bytes, k.receiver = .body len seq kind bytes →
        goes (if bytes.length + 1 < len.toNat then .body len seq kind (bytes ++ [c]) else .check len seq kind (bytes ++ [c]) none)) ∧
      (∀ len seq kind bytes, k.receiver = .check len seq kind bytes none → goes (.check len seq kind bytes (some c))) ∧
      ∀ len seq kind bytes high, k.receiver = .check len seq kind bytes (some high) →
        exec (.characterReceived l c) s = .next (s.modLink l fun k =>
          { k with
            receiver := .hunt
            stretch := .high
            complete := k.complete ++ [{ len := len, seq := seq, kind := kind, bytes := bytes, crcHigh := high, crcLow := c }] })) ∧
    (k.receiver = .hunt → exec (.gapTimeout l) s = .next s) ∧
    (k.receiver ≠ .hunt → exec (.gapTimeout l) s = .next (s.modLink l fun k =>
      { k with receiver := .hunt, counts := { k.counts with gap := wrap32 (k.counts.gap + 1) } })) ∧
    ∀ wasHigh,
      (k.stretch = .high ∨ wasHigh = true → exec (.characterFramingError l wasHigh) s = .next (s.modLink l fun k =>
        { k with
          receiver := .hunt
          stretch := .counted
          counts := { k.counts with framing := wrap32 (k.counts.framing + 1) } })) ∧
      (k.stretch ≠ .high → wasHigh = false → exec (.characterFramingError l wasHigh) s = .next s)

/-- A complete frame is judged: a wrong check is counted and, on an OPEN link, raises RX_ERROR (R166); a good frame that the handler executes is in hand
until its owning block takes it, and taking it then is what the command's row alone does (R168 case 8; log 3); an unknown kind and a wrong
length are refused (R168 cases 6 and 7). A good frame of a command that meets one of cases 1 to 5, or a HELLO on a CLOSED link, is dealt with as the
command's row alone does. The handler takes frames in the order they came: one that completes while a command is in hand waits, and so does the row
of another command; the owner's answer, RESETTING while a DEVICE-RESET is pending (R161), frees the handler, which then takes the waiting frames until
one is in hand. With no complete frame FRAME_RECEIVED changes nothing (log 1). -/
def Obligations.FramesReceivedAreJudged : Prop :=
  (∀ (l : Link) (t : State), handlerPump l [] t = (t.modLink l fun k => { k with waiting := [] }) ∧
    ∀ f rest,
      ((t.links.get l).inHand ≠ none → handlerPump l (f :: rest) t = t.modLink l fun k => { k with waiting := f :: rest }) ∧
      ((t.links.get l).inHand = none → handlerPump l (f :: rest) t = handlerPump l rest (handlerTake l f t)) ∧
      let k := t.links.get l
      let refused (code : Result) : State :=
        let r : Reply := { seq := f.seq, kind := f.kind, body := .refused code, after := .nothing }
        t.modLink l fun k => { k with replies := k.replies ++ [r], cache := if k.session.isSome then some r else k.cache }
      (k.replies.length < 4 → k.cache.map (·.seq) ≠ some f.seq → t.resetPending = false → k.session.isSome = true ∧ k.byeMark = false ∨
          k.session = none ∧ f.kind = 0x01#8 →
        (f.reading = .unknownKind → handlerTake l f t = refused .unknownKind) ∧
        (f.reading = .wrongLength → handlerTake l f t = refused .badLength) ∧
        ∀ c, f.reading = .command c → handlerTake l f t = t.modLink l fun k => { k with inHand := some { seq := f.seq, command := c } })) ∧
  ∀ (l : Link) (s : State), s.resetPin = false →
    let waiting := (s.links.get l).waiting
    (∀ h, (s.links.get l).inHand = some h → ∀ i seq c, hostCommand i = some (l, seq, c) →
      (h ≠ { seq := seq, command := c } →
        exec i s = .next (s.modLink l fun k =>
          { k.counted with waiting := waiting ++ [{ seq := seq, kind := c.kind, reading := .command c }] })) ∧
      (h = { seq := seq, command := c } →
        (s.resetPending = true →
          let r : Reply := { seq := seq, kind := c.kind, body := .refused .resetting, after := .nothing }
          exec i s = .next (handlerPump l waiting (s.modLink l fun k =>
            { k with inHand := none, replies := k.replies ++ [r], cache := if k.session.isSome then some r else k.cache }))) ∧
        (s.resetPending = false → ∀ t, exec i (s.modLink l fun k => { k with waiting := [] }) = .next t →
          ((t.links.get l).inHand = none → exec i s = .next (handlerPump l waiting t)) ∧
          ((t.links.get l).inHand ≠ none → exec i s = .next s)))) ∧
    ((s.links.get l).complete = [] → exec (.frameReceived l) s = .next s) ∧
    ∀ f rest, (s.links.get l).complete = f :: rest →
      (f.checks = true ↔ crcOf (f.len :: f.seq :: f.kind :: f.bytes) = f.crcHigh ++ f.crcLow) ∧
      (f.checks = false → exec (.frameReceived l) s = .next (s.modLink l fun k =>
        { k with
          complete := rest
          counts := { k.counts with crc := wrap32 (k.counts.crc + 1) }
          notices := { k.notices with rxError := k.notices.rxError || k.session.isSome } })) ∧
      let left := s.modLink l fun k => { k with complete := rest }
      let good : GoodFrame := { seq := f.seq, kind := f.kind, reading := readFrame f.kind f.bytes }
      (f.checks = true →
        exec (.frameReceived l) s = .next (handlerPump l (waiting ++ [good]) (left.modLink l LinkState.counted)) ∧
        ((s.links.get l).inHand ≠ none →
          exec (.frameReceived l) s = .next (left.modLink l fun k => { k.counted with waiting := waiting ++ [good] }))) ∧
      (f.checks = true → handlerFree s l = true → ∀ c i, readFrame f.kind f.bytes = .command c → hostCommand i = some (l, f.seq, c) →
        (4 ≤ (s.links.get l).replies.length ∨ (s.links.get l).cache.map (·.seq) = some f.seq ∨ s.resetPending = true
            ∨ ((s.links.get l).session.isSome = true ∧ (s.links.get l).byeMark = true) ∨ ((s.links.get l).session = none ∧ c ≠ .hello) →
          exec (.frameReceived l) s = exec i left) ∧
        (handlerTakes s l f.seq = true → (s.links.get l).session = none → c = .hello →
          exec (.frameReceived l) s = .next (left.modLink l fun k => { k.counted with inHand := some { seq := f.seq, command := .hello } })
            ∧ exec i (left.modLink l fun k => { k.counted with inHand := some { seq := f.seq, command := .hello } }) = exec i left)) ∧
      (f.checks = true → handlerReady s l f.seq = true →
        (readFrame f.kind f.bytes = .unknownKind →
          exec (.frameReceived l) s = .next (left.replied l f.seq f.kind (.refused .unknownKind))) ∧
        (readFrame f.kind f.bytes = .wrongLength →
          exec (.frameReceived l) s = .next (left.replied l f.seq f.kind (.refused .badLength))) ∧
        ∀ c, readFrame f.kind f.bytes = .command c → ∃ t,
          exec (.frameReceived l) s = .next t ∧
            t = left.modLink l (fun k => { k.counted with inHand := some { seq := f.seq, command := c } }) ∧
            ∀ i, hostCommand i = some (l, f.seq, c) → exec i t = exec i left)

/-- A break and a session timeout end an OPEN session: no REPLY, cache or notice of it is left, SESSION-END with the reason is pending, the end is
counted, and the slot table, the readout unit and the journal are told (R167, R172, R173, R177); a DEVICE-RESET whose REPLY is discarded with the
queue waits for that SESSION-END instead, and one whose REPLY is not in the queue waits as before (R162). So does every session end but a reset's. A break is counted once for a stretch of low line
(log 20), and a CLOSED link or one that has not timed out has no session to end, so that nothing happens (log 1). MODEL'S CHOICE: a command in hand,
HELLO apart, is dropped and what was asked of the journal is withdrawn (log 18), and the rate that only a discarded REPLY was to bring is taken at
once when nothing is on the line (R157; log 25). Good frames that waited at the handler are then taken in their order on the CLOSED link (R168). -/
def Obligations.BreakAndTimeoutEndTheSession : Prop :=
  ∀ (l : Link) (s : State), s.resetPin = false →
    let waiting := (s.links.get l).waiting
    let thenTaken (t : State) : State := if waiting = [] then t else handlerPump l waiting t
    let ended (reason : SessionEndReason) (n : Nat) (k : LinkState) : State := thenTaken
      { s with
        device := match s.device with
          | .pending m keep .reply =>
            if m = l ∧ k.replies.any (fun r => r.after == .carryOutReset) = true then .pending m keep (.sessionEnd n) else .pending m keep .reply
          | d => d
        links := s.links.set l
          { k with
            session := none
            byeMark := false
            sinceGood := 0
            replies := []
            cache := none
            notices := Notices.empty
            pendingEnd := some (reason, n)
            counts := { k.counts with ends := k.counts.ends.bump reason }
            rate := if k.onLine then k.rate else (discardedRate k.replies k.rateDue).getD k.rate
            receiver := if k.onLine ∨ discardedRate k.replies k.rateDue = none then k.receiver else .hunt
            rateDue := if k.onLine then discardedRate k.replies k.rateDue else none
            inHand := k.inHand.filter fun x => x.command == .hello
            tx := k.tx.atSessionEnd }
        wires := { s.wires with
          tableEnds := s.wires.tableEnds.set l (s.wires.tableEnds.get l + 1)
          readoutEnds := s.wires.readoutEnds.set l (s.wires.readoutEnds.get l + 1)
          journalLinkIn := s.wires.journalLinkIn.set l
            ((s.wires.journalLinkIn.get l).filter (fun m => m != .frameRequest) ++ [.sessionEnd]) } }
    (∀ reason n, (s.links.get l).session = some n → endSession l reason s = ended reason n (s.links.get l)) ∧
    (∀ wasHigh,
      let broken : LinkState :=
        { s.links.get l with
          receiver := .hunt
          stretch := .inBreak
          counts := { (s.links.get l).counts with breaks := wrap32 ((s.links.get l).counts.breaks + 1) } }
      ((s.links.get l).stretch = .inBreak → wasHigh = false → exec (.lineBreak l wasHigh) s = .next s) ∧
      ((s.links.get l).stretch ≠ .inBreak ∨ wasHigh = true →
        ((s.links.get l).session = none → exec (.lineBreak l wasHigh) s = .next (s.modLink l fun _ => broken)) ∧
        ∀ n, (s.links.get l).session = some n → exec (.lineBreak l wasHigh) s = .next (ended .lineBreak n broken))) ∧
    ((s.links.get l).session = none ∨ s.items.sessionTimeout = 0 ∨ (s.links.get l).sinceGood < s.items.sessionTimeout →
      exec (.sessionTimeout l) s = .next s) ∧
    ∀ n, (s.links.get l).session = some n → s.items.sessionTimeout ≠ 0 → s.items.sessionTimeout ≤ (s.links.get l).sinceGood →
      exec (.sessionTimeout l) s = .next (ended .timeout n (s.links.get l))

/-- The transmitter's choice in the order of R175: SESSION-END, a REPLY, a NOTICE, then what the journal and the readout unit give (R112 to R115,
R136); a REPLY carries its command's SEQ, every other frame the out-sequence counter (R176). A rate that waits is taken up first (R157; log 25).
It does not choose with a frame on the line, while it waits for the journal (log 17), or when a DEVICE-RESET is due on its link (log 24), and nothing
happens then (log 1). -/
def Obligations.TransmitterChoosesInOrder : Prop :=
  ∀ (l : Link) (s : State), s.resetPin = false →
    ((s.links.get l).mayChoose = false ∨ s.resetDueOn l = true → exec (.transmitChoose l) s = .next s) ∧
    ((s.links.get l).mayChoose = true → s.resetDueOn l = false →
      let k : LinkState := match (s.links.get l).rateDue with
        | none => s.links.get l
        | some r => { s.links.get l with rate := r, receiver := .hunt, rateDue := none }
      let sending (b : FrameBody) : LinkState :=
        let seq := match b with
          | .reply r => r.seq.toNat
          | _ => k.outSeq
        { k with
          tx := .sending { seq := seq, body := b, bytes := frameBytes (BitVec.ofNat 8 seq) b.kind b.bytes, rate := k.rate }
          outSeq := match b with
            | .reply _ => k.outSeq
            | _ => (k.outSeq + 1) % 256 }
      let chooses (x : LinkState) : Prop := exec (.transmitChoose l) s = .next { s with links := s.links.set l x }
      (∀ reason n, k.pendingEnd = some (reason, n) → chooses { sending (.sessionEnd reason n) with pendingEnd := none }) ∧
      (k.pendingEnd = none →
        (∀ r rest, k.replies = r :: rest → chooses { sending (.reply r) with replies := rest }) ∧
        (k.replies = [] →
          (k.notices ≠ Notices.empty → chooses { sending (.notice k.notices) with notices := Notices.empty }) ∧
          (k.notices = Notices.empty →
            (k.tx = .idle → exec (.transmitChoose l) s = .next
              { s with
                links := s.links.set l { k with tx := .asking }
                wires := { s.wires with journalLinkIn := s.wires.journalLinkIn.set l (s.wires.journalLinkIn.get l ++ [.frameRequest]) } }) ∧
            (k.tx = .declined →
              let q := s.readouts.get l
              let gives (q : Readout) (b : FrameBody) : Prop :=
                exec (.transmitChoose l) s = .next { s with readouts := s.readouts.set l q, links := s.links.set l (sending b) }
              let held (i : Fin 8) (n : Nat) (c : Capture) : Prop := s.slot i = some c ∧ c.serial = n ∧ c.phase.finished = true
              let parts (c : Capture) : Nat := (c.records.length + 55) / 56
              let after (j : Nat) (c : Capture) : NextFrame := if j < parts c then .part j else .ending .complete
              (s.wires.readoutEnds.get l ≠ 0 ∨ (q.current = none ∧ q.queue = []) → chooses { k with tx := .idle }) ∧
              (s.wires.readoutEnds.get l = 0 →
                (∀ d, q.current = some d →
                  (∀ status, d.next = .ending status → gives { q with current := none } (.captureEnd d.slot d.serial status d.sent)) ∧
                  ∀ j, d.next = .part j →
                    ((∀ c, ¬ held d.slot d.serial c) → gives { q with current := none } (.captureEnd d.slot d.serial .cut d.sent)) ∧
                    ∀ c, held d.slot d.serial c →
                      gives { q with current := some { d with next := after (j + 1) c, sent := d.sent + 1 } }
                        (.capturePart d.slot d.serial j ((c.records.drop (j * 56)).take 56))) ∧
                (q.current = none →
                  (∀ i n rest, q.queue = .cutEnding i n :: rest → gives { q with queue := rest } (.captureEnd i n .cut 0)) ∧
                  (∀ i n rest, q.queue = .abortedEnding i n :: rest → gives { q with queue := rest } (.captureEnd i n .aborted 0)) ∧
                  ∀ i n from' rest, q.queue = .delivery i n from' :: rest →
                    ((∀ c, ¬ held i n c) → gives { q with queue := rest } (.captureEnd i n .cut 0)) ∧
                    ∀ c, held i n c →
                      gives { q with queue := rest, current := some { slot := i, serial := n, fromPart := from', next := after from' c, sent := 0 } }
                        (.captureHead
                          { slot := i
                            capture := c
                            partCount := parts c
                            fromPart := from'
                            bootEpoch := s.time.bootEpoch
                            label := s.items.epochLabel }))))))))

/-- A frame sent, and what it calls for (R175): a journal frame's completion; a BYE's session end; a rate taken into use (R157); a DEVICE-RESET that
waited for it (R162; log 24). A rate that waits is taken up between frames, before the next one starts (R157; log 25). The journal answers a request
with the entries from the cursor on, at most sixteen and within the credit, or declines; and a completion moves the cursor past the frame in flight
(R136). MODEL'S CHOICE: a transmitter that the journal declined asks its readout unit next, and a journal frame is on the line at the journal's
answer (log 17). FRAME_SENT with no frame on the line and LINK_RATE_TAKE_UP with no rate to take change nothing (log 1). -/
def Obligations.FramesSentCallForWhatTheyCarry : Prop :=
  ∀ (l : Link) (s : State), s.resetPin = false →
    (∀ x, (s.links.get l).tx = .sending x →
      let idle := s.modLink l fun k => { k with tx := .idle }
      let sent (t : State) : Prop := exec (.frameSent l) s = .next t
      (∀ first entries, x.body = .journalData first entries → sent (idle.modWires fun w =>
        { w with journalLinkIn := w.journalLinkIn.set l (w.journalLinkIn.get l ++ [.completion]) })) ∧
      (∀ r, x.body = .reply r →
        (r.after = .nothing → sent idle) ∧
        (∀ n, r.after = .byeEnd n →
          ((s.links.get l).session ≠ some n ∨ (s.links.get l).byeMark = false → sent idle) ∧
          ((s.links.get l).session = some n → (s.links.get l).byeMark = true → sent (endSession l .bye idle))) ∧
        (∀ rate, r.after = .takeRate rate → sent (idle.modLink l fun k => { k with rate := rate, receiver := .hunt })) ∧
        (r.after = .carryOutReset →
          (∀ keep, s.device = .pending l keep .reply → sent { idle with device := .pending l keep .due }) ∧
          ((∀ keep, s.device ≠ .pending l keep .reply) → sent idle))) ∧
      (∀ reason n, x.body = .sessionEnd reason n →
        (∀ keep, s.device = .pending l keep (.sessionEnd n) → sent { idle with device := .pending l keep .due }) ∧
        ((∀ keep, s.device ≠ .pending l keep (.sessionEnd n)) → sent idle)) ∧
      (∀ n, x.body = .notice n → sent idle) ∧ (∀ h, x.body = .captureHead h → sent idle) ∧
      (∀ i n j records, x.body = .capturePart i n j records → sent idle) ∧ (∀ i n status j, x.body = .captureEnd i n status j → sent idle)) ∧
    ((∀ x, (s.links.get l).tx ≠ .sending x) → exec (.frameSent l) s = .next s) ∧
    ((s.links.get l).onLine = false → (∀ r, (s.links.get l).rateDue = some r →
      exec (.linkRateTakeUp l) s = .next (s.modLink l fun k => { k with rate := r, receiver := .hunt, rateDue := none }))) ∧
    ((s.links.get l).onLine = true ∨ (s.links.get l).rateDue = none → exec (.linkRateTakeUp l) s = .next s) ∧
    (∀ rest, s.wires.journalLinkIn.get l = .frameRequest :: rest →
      let left : State := { s with wires := { s.wires with journalLinkIn := s.wires.journalLinkIn.set l rest } }
      let j := s.journal
      (j.subs.get l = none → exec (.journalFrameRequest l) s = .next (left.modLink l fun k => { k with tx := .declined })) ∧
      ∀ x, j.subs.get l = some x →
        let outstanding := j.distance x.cursor - j.distance x.acked - 1
        let size := min 16 (min (j.entries.length + 1 - j.distance x.cursor) (64 - outstanding))
        (x.inFlight ≠ none ∨ j.entries.length < j.distance x.cursor ∨ 64 ≤ outstanding →
          exec (.journalFrameRequest l) s = .next (left.modLink l fun k => { k with tx := .declined })) ∧
        (x.inFlight = none → j.distance x.cursor ≤ j.entries.length → outstanding < 64 →
          exec (.journalFrameRequest l) s = .next (({ left with
            journal := { j with subs := j.subs.set l (some { x with inFlight := some (x.cursor, size) }) } } : State).modLink l fun k =>
              { k with
                rate := k.rateDue.getD k.rate
                receiver := if k.rateDue = none then k.receiver else .hunt
                rateDue := none }.startFrame (.journalData x.cursor ((j.entries.drop (j.distance x.cursor - 1)).take size))))) ∧
    ∀ rest, s.wires.journalLinkIn.get l = .completion :: rest →
      let left : State := { s with wires := { s.wires with journalLinkIn := s.wires.journalLinkIn.set l rest } }
      (∀ x first n, s.journal.subs.get l = some x → x.inFlight = some (first, n) →
        exec (.journalFrameCompletion l) s = .next
          { left with journal := { s.journal with subs := s.journal.subs.set l (some { x with cursor := wrap32 (first + n), inFlight := none }) } }) ∧
      (s.journal.subs.get l = none → exec (.journalFrameCompletion l) s = .next left) ∧
      ∀ x, s.journal.subs.get l = some x → x.inFlight = none → exec (.journalFrameCompletion l) s = .next left
end

