-- ==== Sys2Proof/Laws/State.lean ====
section
/-! SUPPORT. One lemma for each field of State and each update of Machine/Ops.lean, and the pairs held per link and per engine. -/

namespace Sys2Proof.Machine

variable (s : State)

/-! ## Values per link and per engine -/

@[simp] theorem PerLink.get_set_self {α : Type} (p : PerLink α) (l : Link) (x : α) : (p.set l x).get l = x := by cases l <;> rfl

theorem PerLink.get_set {α : Type} (p : PerLink α) (l m : Link) (x : α) : (p.set l x).get m = if m = l then x else p.get m := by
  cases l <;> cases m <;> rfl

@[simp] theorem PerLink.get_set_other {α : Type} (p : PerLink α) (l : Link) (x : α) :
    (p.set l x).get (otherLink l) = p.get (otherLink l) := by cases l <;> rfl

@[simp] theorem PerLink.set_get {α : Type} (p : PerLink α) (l : Link) : p.set l (p.get l) = p := by cases l <;> rfl

@[simp] theorem PerLink.set_set {α : Type} (p : PerLink α) (l : Link) (x y : α) : (p.set l x).set l y = p.set l y := by cases l <;> rfl

@[simp] theorem PerEngine.get_set_self {α : Type} (p : PerEngine α) (e : Engine) (x : α) : (p.set e x).get e = x := by cases e <;> rfl

theorem PerEngine.get_set {α : Type} (p : PerEngine α) (e d : Engine) (x : α) : (p.set e x).get d = if d = e then x else p.get d := by
  cases e <;> cases d <;> rfl

@[simp] theorem PerEngine.set_get {α : Type} (p : PerEngine α) (e : Engine) : p.set e (p.get e) = p := by cases e <;> rfl

@[simp] theorem PerEngine.set_set {α : Type} (p : PerEngine α) (e : Engine) (x y : α) : (p.set e x).set e y = p.set e y := by
  cases e <;> rfl

@[simp] theorem otherLink_ne (l : Link) : (otherLink l = l) = False := by cases l <;> simp [otherLink]

@[simp] theorem otherLink_otherLink (l : Link) : otherLink (otherLink l) = l := by cases l <;> rfl

/-! ## Updates and fields -/

@[simp] theorem State.modLink_items (l : Link) (f : LinkState → LinkState) : (s.modLink l f).items = s.items := rfl
@[simp] theorem State.modLink_time (l : Link) (f : LinkState → LinkState) : (s.modLink l f).time = s.time := rfl
@[simp] theorem State.modLink_cond (l : Link) (f : LinkState → LinkState) : (s.modLink l f).cond = s.cond := rfl
@[simp] theorem State.modLink_injector (l : Link) (f : LinkState → LinkState) : (s.modLink l f).injector = s.injector := rfl
@[simp] theorem State.modLink_ring (l : Link) (f : LinkState → LinkState) : (s.modLink l f).ring = s.ring := rfl
@[simp] theorem State.modLink_trig (l : Link) (f : LinkState → LinkState) : (s.modLink l f).trig = s.trig := rfl
@[simp] theorem State.modLink_table (l : Link) (f : LinkState → LinkState) : (s.modLink l f).table = s.table := rfl
@[simp] theorem State.modLink_engines (l : Link) (f : LinkState → LinkState) : (s.modLink l f).engines = s.engines := rfl
@[simp] theorem State.modLink_pool (l : Link) (f : LinkState → LinkState) : (s.modLink l f).pool = s.pool := rfl
@[simp] theorem State.modLink_readouts (l : Link) (f : LinkState → LinkState) : (s.modLink l f).readouts = s.readouts := rfl
@[simp] theorem State.modLink_journal (l : Link) (f : LinkState → LinkState) : (s.modLink l f).journal = s.journal := rfl
@[simp] theorem State.modLink_faults (l : Link) (f : LinkState → LinkState) : (s.modLink l f).faults = s.faults := rfl
@[simp] theorem State.modLink_links (l : Link) (f : LinkState → LinkState) : (s.modLink l f).links = s.links.set l (f (s.links.get l)) := rfl
@[simp] theorem State.modLink_device (l : Link) (f : LinkState → LinkState) : (s.modLink l f).device = s.device := rfl
@[simp] theorem State.modLink_resetPin (l : Link) (f : LinkState → LinkState) : (s.modLink l f).resetPin = s.resetPin := rfl
@[simp] theorem State.modLink_wires (l : Link) (f : LinkState → LinkState) : (s.modLink l f).wires = s.wires := rfl
@[simp] theorem State.modLink_pending (l : Link) (f : LinkState → LinkState) : (s.modLink l f).pending = s.pending := rfl

@[simp] theorem State.modReadout_items (l : Link) (f : Readout → Readout) : (s.modReadout l f).items = s.items := rfl
@[simp] theorem State.modReadout_time (l : Link) (f : Readout → Readout) : (s.modReadout l f).time = s.time := rfl
@[simp] theorem State.modReadout_cond (l : Link) (f : Readout → Readout) : (s.modReadout l f).cond = s.cond := rfl
@[simp] theorem State.modReadout_injector (l : Link) (f : Readout → Readout) : (s.modReadout l f).injector = s.injector := rfl
@[simp] theorem State.modReadout_ring (l : Link) (f : Readout → Readout) : (s.modReadout l f).ring = s.ring := rfl
@[simp] theorem State.modReadout_trig (l : Link) (f : Readout → Readout) : (s.modReadout l f).trig = s.trig := rfl
@[simp] theorem State.modReadout_table (l : Link) (f : Readout → Readout) : (s.modReadout l f).table = s.table := rfl
@[simp] theorem State.modReadout_engines (l : Link) (f : Readout → Readout) : (s.modReadout l f).engines = s.engines := rfl
@[simp] theorem State.modReadout_pool (l : Link) (f : Readout → Readout) : (s.modReadout l f).pool = s.pool := rfl
@[simp] theorem State.modReadout_readouts (l : Link) (f : Readout → Readout) : (s.modReadout l f).readouts = s.readouts.set l (f (s.readouts.get l)) := rfl
@[simp] theorem State.modReadout_journal (l : Link) (f : Readout → Readout) : (s.modReadout l f).journal = s.journal := rfl
@[simp] theorem State.modReadout_faults (l : Link) (f : Readout → Readout) : (s.modReadout l f).faults = s.faults := rfl
@[simp] theorem State.modReadout_links (l : Link) (f : Readout → Readout) : (s.modReadout l f).links = s.links := rfl
@[simp] theorem State.modReadout_device (l : Link) (f : Readout → Readout) : (s.modReadout l f).device = s.device := rfl
@[simp] theorem State.modReadout_resetPin (l : Link) (f : Readout → Readout) : (s.modReadout l f).resetPin = s.resetPin := rfl
@[simp] theorem State.modReadout_wires (l : Link) (f : Readout → Readout) : (s.modReadout l f).wires = s.wires := rfl
@[simp] theorem State.modReadout_pending (l : Link) (f : Readout → Readout) : (s.modReadout l f).pending = s.pending := rfl

@[simp] theorem State.setEngine_items (e : Engine) (x : EngineState) : (s.setEngine e x).items = s.items := rfl
@[simp] theorem State.setEngine_time (e : Engine) (x : EngineState) : (s.setEngine e x).time = s.time := rfl
@[simp] theorem State.setEngine_cond (e : Engine) (x : EngineState) : (s.setEngine e x).cond = s.cond := rfl
@[simp] theorem State.setEngine_injector (e : Engine) (x : EngineState) : (s.setEngine e x).injector = s.injector := rfl
@[simp] theorem State.setEngine_ring (e : Engine) (x : EngineState) : (s.setEngine e x).ring = s.ring := rfl
@[simp] theorem State.setEngine_trig (e : Engine) (x : EngineState) : (s.setEngine e x).trig = s.trig := rfl
@[simp] theorem State.setEngine_table (e : Engine) (x : EngineState) : (s.setEngine e x).table = s.table := rfl
@[simp] theorem State.setEngine_engines (e : Engine) (x : EngineState) : (s.setEngine e x).engines = s.engines.set e x := rfl
@[simp] theorem State.setEngine_pool (e : Engine) (x : EngineState) : (s.setEngine e x).pool = s.pool := rfl
@[simp] theorem State.setEngine_readouts (e : Engine) (x : EngineState) : (s.setEngine e x).readouts = s.readouts := rfl
@[simp] theorem State.setEngine_journal (e : Engine) (x : EngineState) : (s.setEngine e x).journal = s.journal := rfl
@[simp] theorem State.setEngine_faults (e : Engine) (x : EngineState) : (s.setEngine e x).faults = s.faults := rfl
@[simp] theorem State.setEngine_links (e : Engine) (x : EngineState) : (s.setEngine e x).links = s.links := rfl
@[simp] theorem State.setEngine_device (e : Engine) (x : EngineState) : (s.setEngine e x).device = s.device := rfl
@[simp] theorem State.setEngine_resetPin (e : Engine) (x : EngineState) : (s.setEngine e x).resetPin = s.resetPin := rfl
@[simp] theorem State.setEngine_wires (e : Engine) (x : EngineState) : (s.setEngine e x).wires = s.wires := rfl
@[simp] theorem State.setEngine_pending (e : Engine) (x : EngineState) : (s.setEngine e x).pending = s.pending := rfl

@[simp] theorem State.modWires_items (f : Wires → Wires) : (s.modWires f).items = s.items := rfl
@[simp] theorem State.modWires_time (f : Wires → Wires) : (s.modWires f).time = s.time := rfl
@[simp] theorem State.modWires_cond (f : Wires → Wires) : (s.modWires f).cond = s.cond := rfl
@[simp] theorem State.modWires_injector (f : Wires → Wires) : (s.modWires f).injector = s.injector := rfl
@[simp] theorem State.modWires_ring (f : Wires → Wires) : (s.modWires f).ring = s.ring := rfl
@[simp] theorem State.modWires_trig (f : Wires → Wires) : (s.modWires f).trig = s.trig := rfl
@[simp] theorem State.modWires_table (f : Wires → Wires) : (s.modWires f).table = s.table := rfl
@[simp] theorem State.modWires_engines (f : Wires → Wires) : (s.modWires f).engines = s.engines := rfl
@[simp] theorem State.modWires_pool (f : Wires → Wires) : (s.modWires f).pool = s.pool := rfl
@[simp] theorem State.modWires_readouts (f : Wires → Wires) : (s.modWires f).readouts = s.readouts := rfl
@[simp] theorem State.modWires_journal (f : Wires → Wires) : (s.modWires f).journal = s.journal := rfl
@[simp] theorem State.modWires_faults (f : Wires → Wires) : (s.modWires f).faults = s.faults := rfl
@[simp] theorem State.modWires_links (f : Wires → Wires) : (s.modWires f).links = s.links := rfl
@[simp] theorem State.modWires_device (f : Wires → Wires) : (s.modWires f).device = s.device := rfl
@[simp] theorem State.modWires_resetPin (f : Wires → Wires) : (s.modWires f).resetPin = s.resetPin := rfl
@[simp] theorem State.modWires_wires (f : Wires → Wires) : (s.modWires f).wires = f s.wires := rfl
@[simp] theorem State.modWires_pending (f : Wires → Wires) : (s.modWires f).pending = s.pending := rfl

@[simp] theorem State.modTable_items (f : SlotTable → SlotTable) : (s.modTable f).items = s.items := rfl
@[simp] theorem State.modTable_time (f : SlotTable → SlotTable) : (s.modTable f).time = s.time := rfl
@[simp] theorem State.modTable_cond (f : SlotTable → SlotTable) : (s.modTable f).cond = s.cond := rfl
@[simp] theorem State.modTable_injector (f : SlotTable → SlotTable) : (s.modTable f).injector = s.injector := rfl
@[simp] theorem State.modTable_ring (f : SlotTable → SlotTable) : (s.modTable f).ring = s.ring := rfl
@[simp] theorem State.modTable_trig (f : SlotTable → SlotTable) : (s.modTable f).trig = s.trig := rfl
@[simp] theorem State.modTable_table (f : SlotTable → SlotTable) : (s.modTable f).table = f s.table := rfl
@[simp] theorem State.modTable_engines (f : SlotTable → SlotTable) : (s.modTable f).engines = s.engines := rfl
@[simp] theorem State.modTable_pool (f : SlotTable → SlotTable) : (s.modTable f).pool = s.pool := rfl
@[simp] theorem State.modTable_readouts (f : SlotTable → SlotTable) : (s.modTable f).readouts = s.readouts := rfl
@[simp] theorem State.modTable_journal (f : SlotTable → SlotTable) : (s.modTable f).journal = s.journal := rfl
@[simp] theorem State.modTable_faults (f : SlotTable → SlotTable) : (s.modTable f).faults = s.faults := rfl
@[simp] theorem State.modTable_links (f : SlotTable → SlotTable) : (s.modTable f).links = s.links := rfl
@[simp] theorem State.modTable_device (f : SlotTable → SlotTable) : (s.modTable f).device = s.device := rfl
@[simp] theorem State.modTable_resetPin (f : SlotTable → SlotTable) : (s.modTable f).resetPin = s.resetPin := rfl
@[simp] theorem State.modTable_wires (f : SlotTable → SlotTable) : (s.modTable f).wires = s.wires := rfl
@[simp] theorem State.modTable_pending (f : SlotTable → SlotTable) : (s.modTable f).pending = s.pending := rfl

@[simp] theorem State.modTrig_items (f : TriggerUnit → TriggerUnit) : (s.modTrig f).items = s.items := rfl
@[simp] theorem State.modTrig_time (f : TriggerUnit → TriggerUnit) : (s.modTrig f).time = s.time := rfl
@[simp] theorem State.modTrig_cond (f : TriggerUnit → TriggerUnit) : (s.modTrig f).cond = s.cond := rfl
@[simp] theorem State.modTrig_injector (f : TriggerUnit → TriggerUnit) : (s.modTrig f).injector = s.injector := rfl
@[simp] theorem State.modTrig_ring (f : TriggerUnit → TriggerUnit) : (s.modTrig f).ring = s.ring := rfl
@[simp] theorem State.modTrig_trig (f : TriggerUnit → TriggerUnit) : (s.modTrig f).trig = f s.trig := rfl
@[simp] theorem State.modTrig_table (f : TriggerUnit → TriggerUnit) : (s.modTrig f).table = s.table := rfl
@[simp] theorem State.modTrig_engines (f : TriggerUnit → TriggerUnit) : (s.modTrig f).engines = s.engines := rfl
@[simp] theorem State.modTrig_pool (f : TriggerUnit → TriggerUnit) : (s.modTrig f).pool = s.pool := rfl
@[simp] theorem State.modTrig_readouts (f : TriggerUnit → TriggerUnit) : (s.modTrig f).readouts = s.readouts := rfl
@[simp] theorem State.modTrig_journal (f : TriggerUnit → TriggerUnit) : (s.modTrig f).journal = s.journal := rfl
@[simp] theorem State.modTrig_faults (f : TriggerUnit → TriggerUnit) : (s.modTrig f).faults = s.faults := rfl
@[simp] theorem State.modTrig_links (f : TriggerUnit → TriggerUnit) : (s.modTrig f).links = s.links := rfl
@[simp] theorem State.modTrig_device (f : TriggerUnit → TriggerUnit) : (s.modTrig f).device = s.device := rfl
@[simp] theorem State.modTrig_resetPin (f : TriggerUnit → TriggerUnit) : (s.modTrig f).resetPin = s.resetPin := rfl
@[simp] theorem State.modTrig_wires (f : TriggerUnit → TriggerUnit) : (s.modTrig f).wires = s.wires := rfl
@[simp] theorem State.modTrig_pending (f : TriggerUnit → TriggerUnit) : (s.modTrig f).pending = s.pending := rfl

@[simp] theorem State.modJournal_items (f : Journal → Journal) : (s.modJournal f).items = s.items := rfl
@[simp] theorem State.modJournal_time (f : Journal → Journal) : (s.modJournal f).time = s.time := rfl
@[simp] theorem State.modJournal_cond (f : Journal → Journal) : (s.modJournal f).cond = s.cond := rfl
@[simp] theorem State.modJournal_injector (f : Journal → Journal) : (s.modJournal f).injector = s.injector := rfl
@[simp] theorem State.modJournal_ring (f : Journal → Journal) : (s.modJournal f).ring = s.ring := rfl
@[simp] theorem State.modJournal_trig (f : Journal → Journal) : (s.modJournal f).trig = s.trig := rfl
@[simp] theorem State.modJournal_table (f : Journal → Journal) : (s.modJournal f).table = s.table := rfl
@[simp] theorem State.modJournal_engines (f : Journal → Journal) : (s.modJournal f).engines = s.engines := rfl
@[simp] theorem State.modJournal_pool (f : Journal → Journal) : (s.modJournal f).pool = s.pool := rfl
@[simp] theorem State.modJournal_readouts (f : Journal → Journal) : (s.modJournal f).readouts = s.readouts := rfl
@[simp] theorem State.modJournal_journal (f : Journal → Journal) : (s.modJournal f).journal = f s.journal := rfl
@[simp] theorem State.modJournal_faults (f : Journal → Journal) : (s.modJournal f).faults = s.faults := rfl
@[simp] theorem State.modJournal_links (f : Journal → Journal) : (s.modJournal f).links = s.links := rfl
@[simp] theorem State.modJournal_device (f : Journal → Journal) : (s.modJournal f).device = s.device := rfl
@[simp] theorem State.modJournal_resetPin (f : Journal → Journal) : (s.modJournal f).resetPin = s.resetPin := rfl
@[simp] theorem State.modJournal_wires (f : Journal → Journal) : (s.modJournal f).wires = s.wires := rfl
@[simp] theorem State.modJournal_pending (f : Journal → Journal) : (s.modJournal f).pending = s.pending := rfl

@[simp] theorem State.modTime_items (f : Timebase → Timebase) : (s.modTime f).items = s.items := rfl
@[simp] theorem State.modTime_time (f : Timebase → Timebase) : (s.modTime f).time = f s.time := rfl
@[simp] theorem State.modTime_cond (f : Timebase → Timebase) : (s.modTime f).cond = s.cond := rfl
@[simp] theorem State.modTime_injector (f : Timebase → Timebase) : (s.modTime f).injector = s.injector := rfl
@[simp] theorem State.modTime_ring (f : Timebase → Timebase) : (s.modTime f).ring = s.ring := rfl
@[simp] theorem State.modTime_trig (f : Timebase → Timebase) : (s.modTime f).trig = s.trig := rfl
@[simp] theorem State.modTime_table (f : Timebase → Timebase) : (s.modTime f).table = s.table := rfl
@[simp] theorem State.modTime_engines (f : Timebase → Timebase) : (s.modTime f).engines = s.engines := rfl
@[simp] theorem State.modTime_pool (f : Timebase → Timebase) : (s.modTime f).pool = s.pool := rfl
@[simp] theorem State.modTime_readouts (f : Timebase → Timebase) : (s.modTime f).readouts = s.readouts := rfl
@[simp] theorem State.modTime_journal (f : Timebase → Timebase) : (s.modTime f).journal = s.journal := rfl
@[simp] theorem State.modTime_faults (f : Timebase → Timebase) : (s.modTime f).faults = s.faults := rfl
@[simp] theorem State.modTime_links (f : Timebase → Timebase) : (s.modTime f).links = s.links := rfl
@[simp] theorem State.modTime_device (f : Timebase → Timebase) : (s.modTime f).device = s.device := rfl
@[simp] theorem State.modTime_resetPin (f : Timebase → Timebase) : (s.modTime f).resetPin = s.resetPin := rfl
@[simp] theorem State.modTime_wires (f : Timebase → Timebase) : (s.modTime f).wires = s.wires := rfl
@[simp] theorem State.modTime_pending (f : Timebase → Timebase) : (s.modTime f).pending = s.pending := rfl

@[simp] theorem State.setCond_items (c : Conditioner) : (s.setCond c).items = s.items := rfl
@[simp] theorem State.setCond_time (c : Conditioner) : (s.setCond c).time = s.time := rfl
@[simp] theorem State.setCond_cond (c : Conditioner) : (s.setCond c).cond = c := rfl
@[simp] theorem State.setCond_injector (c : Conditioner) : (s.setCond c).injector = s.injector := rfl
@[simp] theorem State.setCond_ring (c : Conditioner) : (s.setCond c).ring = s.ring := rfl
@[simp] theorem State.setCond_trig (c : Conditioner) : (s.setCond c).trig = s.trig := rfl
@[simp] theorem State.setCond_table (c : Conditioner) : (s.setCond c).table = s.table := rfl
@[simp] theorem State.setCond_engines (c : Conditioner) : (s.setCond c).engines = s.engines := rfl
@[simp] theorem State.setCond_pool (c : Conditioner) : (s.setCond c).pool = s.pool := rfl
@[simp] theorem State.setCond_readouts (c : Conditioner) : (s.setCond c).readouts = s.readouts := rfl
@[simp] theorem State.setCond_journal (c : Conditioner) : (s.setCond c).journal = s.journal := rfl
@[simp] theorem State.setCond_faults (c : Conditioner) : (s.setCond c).faults = s.faults := rfl
@[simp] theorem State.setCond_links (c : Conditioner) : (s.setCond c).links = s.links := rfl
@[simp] theorem State.setCond_device (c : Conditioner) : (s.setCond c).device = s.device := rfl
@[simp] theorem State.setCond_resetPin (c : Conditioner) : (s.setCond c).resetPin = s.resetPin := rfl
@[simp] theorem State.setCond_wires (c : Conditioner) : (s.setCond c).wires = s.wires := rfl
@[simp] theorem State.setCond_pending (c : Conditioner) : (s.setCond c).pending = s.pending := rfl

@[simp] theorem State.setInjector_items (i : Injector) : (s.setInjector i).items = s.items := rfl
@[simp] theorem State.setInjector_time (i : Injector) : (s.setInjector i).time = s.time := rfl
@[simp] theorem State.setInjector_cond (i : Injector) : (s.setInjector i).cond = s.cond := rfl
@[simp] theorem State.setInjector_injector (i : Injector) : (s.setInjector i).injector = i := rfl
@[simp] theorem State.setInjector_ring (i : Injector) : (s.setInjector i).ring = s.ring := rfl
@[simp] theorem State.setInjector_trig (i : Injector) : (s.setInjector i).trig = s.trig := rfl
@[simp] theorem State.setInjector_table (i : Injector) : (s.setInjector i).table = s.table := rfl
@[simp] theorem State.setInjector_engines (i : Injector) : (s.setInjector i).engines = s.engines := rfl
@[simp] theorem State.setInjector_pool (i : Injector) : (s.setInjector i).pool = s.pool := rfl
@[simp] theorem State.setInjector_readouts (i : Injector) : (s.setInjector i).readouts = s.readouts := rfl
@[simp] theorem State.setInjector_journal (i : Injector) : (s.setInjector i).journal = s.journal := rfl
@[simp] theorem State.setInjector_faults (i : Injector) : (s.setInjector i).faults = s.faults := rfl
@[simp] theorem State.setInjector_links (i : Injector) : (s.setInjector i).links = s.links := rfl
@[simp] theorem State.setInjector_device (i : Injector) : (s.setInjector i).device = s.device := rfl
@[simp] theorem State.setInjector_resetPin (i : Injector) : (s.setInjector i).resetPin = s.resetPin := rfl
@[simp] theorem State.setInjector_wires (i : Injector) : (s.setInjector i).wires = s.wires := rfl
@[simp] theorem State.setInjector_pending (i : Injector) : (s.setInjector i).pending = s.pending := rfl

@[simp] theorem State.setRing_items (r : List Row) : (s.setRing r).items = s.items := rfl
@[simp] theorem State.setRing_time (r : List Row) : (s.setRing r).time = s.time := rfl
@[simp] theorem State.setRing_cond (r : List Row) : (s.setRing r).cond = s.cond := rfl
@[simp] theorem State.setRing_injector (r : List Row) : (s.setRing r).injector = s.injector := rfl
@[simp] theorem State.setRing_ring (r : List Row) : (s.setRing r).ring = r := rfl
@[simp] theorem State.setRing_trig (r : List Row) : (s.setRing r).trig = s.trig := rfl
@[simp] theorem State.setRing_table (r : List Row) : (s.setRing r).table = s.table := rfl
@[simp] theorem State.setRing_engines (r : List Row) : (s.setRing r).engines = s.engines := rfl
@[simp] theorem State.setRing_pool (r : List Row) : (s.setRing r).pool = s.pool := rfl
@[simp] theorem State.setRing_readouts (r : List Row) : (s.setRing r).readouts = s.readouts := rfl
@[simp] theorem State.setRing_journal (r : List Row) : (s.setRing r).journal = s.journal := rfl
@[simp] theorem State.setRing_faults (r : List Row) : (s.setRing r).faults = s.faults := rfl
@[simp] theorem State.setRing_links (r : List Row) : (s.setRing r).links = s.links := rfl
@[simp] theorem State.setRing_device (r : List Row) : (s.setRing r).device = s.device := rfl
@[simp] theorem State.setRing_resetPin (r : List Row) : (s.setRing r).resetPin = s.resetPin := rfl
@[simp] theorem State.setRing_wires (r : List Row) : (s.setRing r).wires = s.wires := rfl
@[simp] theorem State.setRing_pending (r : List Row) : (s.setRing r).pending = s.pending := rfl

@[simp] theorem State.setPool_items (p : List Nat) : (s.setPool p).items = s.items := rfl
@[simp] theorem State.setPool_time (p : List Nat) : (s.setPool p).time = s.time := rfl
@[simp] theorem State.setPool_cond (p : List Nat) : (s.setPool p).cond = s.cond := rfl
@[simp] theorem State.setPool_injector (p : List Nat) : (s.setPool p).injector = s.injector := rfl
@[simp] theorem State.setPool_ring (p : List Nat) : (s.setPool p).ring = s.ring := rfl
@[simp] theorem State.setPool_trig (p : List Nat) : (s.setPool p).trig = s.trig := rfl
@[simp] theorem State.setPool_table (p : List Nat) : (s.setPool p).table = s.table := rfl
@[simp] theorem State.setPool_engines (p : List Nat) : (s.setPool p).engines = s.engines := rfl
@[simp] theorem State.setPool_pool (p : List Nat) : (s.setPool p).pool = p := rfl
@[simp] theorem State.setPool_readouts (p : List Nat) : (s.setPool p).readouts = s.readouts := rfl
@[simp] theorem State.setPool_journal (p : List Nat) : (s.setPool p).journal = s.journal := rfl
@[simp] theorem State.setPool_faults (p : List Nat) : (s.setPool p).faults = s.faults := rfl
@[simp] theorem State.setPool_links (p : List Nat) : (s.setPool p).links = s.links := rfl
@[simp] theorem State.setPool_device (p : List Nat) : (s.setPool p).device = s.device := rfl
@[simp] theorem State.setPool_resetPin (p : List Nat) : (s.setPool p).resetPin = s.resetPin := rfl
@[simp] theorem State.setPool_wires (p : List Nat) : (s.setPool p).wires = s.wires := rfl
@[simp] theorem State.setPool_pending (p : List Nat) : (s.setPool p).pending = s.pending := rfl

@[simp] theorem State.setFaults_items (f : FaultLog) : (s.setFaults f).items = s.items := rfl
@[simp] theorem State.setFaults_time (f : FaultLog) : (s.setFaults f).time = s.time := rfl
@[simp] theorem State.setFaults_cond (f : FaultLog) : (s.setFaults f).cond = s.cond := rfl
@[simp] theorem State.setFaults_injector (f : FaultLog) : (s.setFaults f).injector = s.injector := rfl
@[simp] theorem State.setFaults_ring (f : FaultLog) : (s.setFaults f).ring = s.ring := rfl
@[simp] theorem State.setFaults_trig (f : FaultLog) : (s.setFaults f).trig = s.trig := rfl
@[simp] theorem State.setFaults_table (f : FaultLog) : (s.setFaults f).table = s.table := rfl
@[simp] theorem State.setFaults_engines (f : FaultLog) : (s.setFaults f).engines = s.engines := rfl
@[simp] theorem State.setFaults_pool (f : FaultLog) : (s.setFaults f).pool = s.pool := rfl
@[simp] theorem State.setFaults_readouts (f : FaultLog) : (s.setFaults f).readouts = s.readouts := rfl
@[simp] theorem State.setFaults_journal (f : FaultLog) : (s.setFaults f).journal = s.journal := rfl
@[simp] theorem State.setFaults_faults (f : FaultLog) : (s.setFaults f).faults = f := rfl
@[simp] theorem State.setFaults_links (f : FaultLog) : (s.setFaults f).links = s.links := rfl
@[simp] theorem State.setFaults_device (f : FaultLog) : (s.setFaults f).device = s.device := rfl
@[simp] theorem State.setFaults_resetPin (f : FaultLog) : (s.setFaults f).resetPin = s.resetPin := rfl
@[simp] theorem State.setFaults_wires (f : FaultLog) : (s.setFaults f).wires = s.wires := rfl
@[simp] theorem State.setFaults_pending (f : FaultLog) : (s.setFaults f).pending = s.pending := rfl

@[simp] theorem State.setItems_items (i : Items) : (s.setItems i).items = i := rfl
@[simp] theorem State.setItems_time (i : Items) : (s.setItems i).time = s.time := rfl
@[simp] theorem State.setItems_cond (i : Items) : (s.setItems i).cond = s.cond := rfl
@[simp] theorem State.setItems_injector (i : Items) : (s.setItems i).injector = s.injector := rfl
@[simp] theorem State.setItems_ring (i : Items) : (s.setItems i).ring = s.ring := rfl
@[simp] theorem State.setItems_trig (i : Items) : (s.setItems i).trig = s.trig := rfl
@[simp] theorem State.setItems_table (i : Items) : (s.setItems i).table = s.table := rfl
@[simp] theorem State.setItems_engines (i : Items) : (s.setItems i).engines = s.engines := rfl
@[simp] theorem State.setItems_pool (i : Items) : (s.setItems i).pool = s.pool := rfl
@[simp] theorem State.setItems_readouts (i : Items) : (s.setItems i).readouts = s.readouts := rfl
@[simp] theorem State.setItems_journal (i : Items) : (s.setItems i).journal = s.journal := rfl
@[simp] theorem State.setItems_faults (i : Items) : (s.setItems i).faults = s.faults := rfl
@[simp] theorem State.setItems_links (i : Items) : (s.setItems i).links = s.links := rfl
@[simp] theorem State.setItems_device (i : Items) : (s.setItems i).device = s.device := rfl
@[simp] theorem State.setItems_resetPin (i : Items) : (s.setItems i).resetPin = s.resetPin := rfl
@[simp] theorem State.setItems_wires (i : Items) : (s.setItems i).wires = s.wires := rfl
@[simp] theorem State.setItems_pending (i : Items) : (s.setItems i).pending = s.pending := rfl

@[simp] theorem State.setDevice_items (d : ResetCondition) : (s.setDevice d).items = s.items := rfl
@[simp] theorem State.setDevice_time (d : ResetCondition) : (s.setDevice d).time = s.time := rfl
@[simp] theorem State.setDevice_cond (d : ResetCondition) : (s.setDevice d).cond = s.cond := rfl
@[simp] theorem State.setDevice_injector (d : ResetCondition) : (s.setDevice d).injector = s.injector := rfl
@[simp] theorem State.setDevice_ring (d : ResetCondition) : (s.setDevice d).ring = s.ring := rfl
@[simp] theorem State.setDevice_trig (d : ResetCondition) : (s.setDevice d).trig = s.trig := rfl
@[simp] theorem State.setDevice_table (d : ResetCondition) : (s.setDevice d).table = s.table := rfl
@[simp] theorem State.setDevice_engines (d : ResetCondition) : (s.setDevice d).engines = s.engines := rfl
@[simp] theorem State.setDevice_pool (d : ResetCondition) : (s.setDevice d).pool = s.pool := rfl
@[simp] theorem State.setDevice_readouts (d : ResetCondition) : (s.setDevice d).readouts = s.readouts := rfl
@[simp] theorem State.setDevice_journal (d : ResetCondition) : (s.setDevice d).journal = s.journal := rfl
@[simp] theorem State.setDevice_faults (d : ResetCondition) : (s.setDevice d).faults = s.faults := rfl
@[simp] theorem State.setDevice_links (d : ResetCondition) : (s.setDevice d).links = s.links := rfl
@[simp] theorem State.setDevice_device (d : ResetCondition) : (s.setDevice d).device = d := rfl
@[simp] theorem State.setDevice_resetPin (d : ResetCondition) : (s.setDevice d).resetPin = s.resetPin := rfl
@[simp] theorem State.setDevice_wires (d : ResetCondition) : (s.setDevice d).wires = s.wires := rfl
@[simp] theorem State.setDevice_pending (d : ResetCondition) : (s.setDevice d).pending = s.pending := rfl

@[simp] theorem State.setPending_items (q : List Instr) : (s.setPending q).items = s.items := rfl
@[simp] theorem State.setPending_time (q : List Instr) : (s.setPending q).time = s.time := rfl
@[simp] theorem State.setPending_cond (q : List Instr) : (s.setPending q).cond = s.cond := rfl
@[simp] theorem State.setPending_injector (q : List Instr) : (s.setPending q).injector = s.injector := rfl
@[simp] theorem State.setPending_ring (q : List Instr) : (s.setPending q).ring = s.ring := rfl
@[simp] theorem State.setPending_trig (q : List Instr) : (s.setPending q).trig = s.trig := rfl
@[simp] theorem State.setPending_table (q : List Instr) : (s.setPending q).table = s.table := rfl
@[simp] theorem State.setPending_engines (q : List Instr) : (s.setPending q).engines = s.engines := rfl
@[simp] theorem State.setPending_pool (q : List Instr) : (s.setPending q).pool = s.pool := rfl
@[simp] theorem State.setPending_readouts (q : List Instr) : (s.setPending q).readouts = s.readouts := rfl
@[simp] theorem State.setPending_journal (q : List Instr) : (s.setPending q).journal = s.journal := rfl
@[simp] theorem State.setPending_faults (q : List Instr) : (s.setPending q).faults = s.faults := rfl
@[simp] theorem State.setPending_links (q : List Instr) : (s.setPending q).links = s.links := rfl
@[simp] theorem State.setPending_device (q : List Instr) : (s.setPending q).device = s.device := rfl
@[simp] theorem State.setPending_resetPin (q : List Instr) : (s.setPending q).resetPin = s.resetPin := rfl
@[simp] theorem State.setPending_wires (q : List Instr) : (s.setPending q).wires = s.wires := rfl
@[simp] theorem State.setPending_pending (q : List Instr) : (s.setPending q).pending = q := rfl

end Sys2Proof.Machine
end

