-- ==== Sys2Proof/Laws/Footprints.lean ====
section
/-! SUPPORT. What each happening can change: every operation answers its state with at most the named fields replaced. The frame of a
happening, and every law about fields it does not name, follow from its lemma here. -/

namespace Sys2Proof.Machine

variable (s : State)

/-! ## Shared operations -/

theorem notify_only (l : Link) (f : Notices → Notices) :
    ∃ k', s.notify l f = { s with links := k' } := by
  unfold State.notify; split <;> exact ⟨_, rfl⟩

theorem notifyBoth_only (f : Notices → Notices) :
    ∃ k', s.notifyBoth f = { s with links := k' } := by
  obtain ⟨a, ha⟩ := notify_only s .A f
  obtain ⟨b, hb⟩ := notify_only (s.notify .A f) .B f
  exact ⟨b, by rw [State.notifyBoth, hb, ha]⟩

theorem handlerTake_only (l : Link) (f : GoodFrame) :
    ∃ k', handlerTake l f s = { s with links := k' } := by
  unfold handlerTake handlerOverrun handlerReplay State.answer
  obtain ⟨a, ha⟩ := notify_only (s.modLink l fun k =>
    { k with counts := { k.counts with overruns := wrap32 (k.counts.overruns + 1) } }) l fun n => { n with overrun := true }
  simp only [ha]
  repeat' split
  all_goals exact ⟨_, rfl⟩

theorem handlerPump_only (l : Link) (fs : List GoodFrame) : ∀ s : State, ∃ k', handlerPump l fs s = { s with links := k' } := by
  induction fs with
  | nil => intro s; exact ⟨_, rfl⟩
  | cons f rest ih =>
    intro s
    unfold handlerPump
    split
    · exact ⟨_, rfl⟩
    · obtain ⟨a, ha⟩ := handlerTake_only s l f
      obtain ⟨b, hb⟩ := ih (handlerTake l f s)
      exact ⟨b, by rw [hb, ha]⟩

theorem goodFrame_only (l : Link) (f : GoodFrame) :
    ∃ k', goodFrame l f s = { s with links := k' } := by
  unfold goodFrame
  obtain ⟨a, ha⟩ := handlerPump_only l _ _
  exact ⟨a, by rw [ha]; rfl⟩

theorem finishCommand_only (l : Link) (seq kind : Byte) (body : ReplyBody) (after : AfterReply) :
    ∃ k', finishCommand l seq kind body after s = { s with links := k' } := by
  unfold finishCommand
  obtain ⟨a, ha⟩ := handlerPump_only l _ _
  exact ⟨a, by rw [ha]; rfl⟩

/-- R173 reaches the reset condition, the links and the three hand-offs of the end. -/
theorem endSession_only (l : Link) (reason : SessionEndReason) :
    ∃ d' k' w1 w2 w3, endSession l reason s = { s with device := d', links := k', wires := { s.wires with tableEnds := w1, readoutEnds := w2, journalLinkIn := w3 } } := by
  unfold endSession
  split
  · exact ⟨s.device, s.links, s.wires.tableEnds, s.wires.readoutEnds, s.wires.journalLinkIn, rfl⟩
  · obtain ⟨a, ha⟩ := handlerPump_only l _ _
    exact ⟨_, _, _, _, _, by rw [ha]; rfl⟩

theorem returnFromTable_only (bs : List Nat) :
    ∃ w1, s.returnFromTable bs = { s with wires := { s.wires with tableReturns := w1 } } := by
  unfold State.returnFromTable; split <;> exact ⟨_, rfl⟩

theorem returnFromEngine_only (e : Engine) (bs : List Nat) :
    ∃ w1, s.returnFromEngine e bs = { s with wires := { s.wires with engineReturns := w1 } } := by
  unfold State.returnFromEngine; split <;> exact ⟨_, rfl⟩

theorem tellAll_only (ms : List ReadoutMessage) :
    ∀ s : State, ∃ w1, ms.foldl State.tellReadouts s = { s with wires := { s.wires with readoutIn := w1 } } := by
  induction ms with
  | nil => intro s; exact ⟨s.wires.readoutIn, rfl⟩
  | cons m rest ih =>
    intro s
    obtain ⟨a, ha⟩ := ih (s.tellReadouts m)
    exact ⟨a, by rw [List.foldl_cons, ha]; rfl⟩

/-- An offer reaches the slot table alone (R47). -/
theorem takeOffer_only (o : Offer) :
    ∃ t', (takeOffer o s).1 = { s with table := t' } := by
  unfold takeOffer; split <;> exact ⟨_, rfl⟩

/-- A command row either leaves every block but the links as it was, or does what the owning block's happening does, with the links of the
arrival before it and the links of the answer after it. -/
theorem commandRow_cases (l : Link) (seq : Byte) (c : Command) (own : Owner) :
    (∃ k', commandRow l seq c own s = { s with links := k' })
      ∨ ∃ k' t body after k'', own { s with links := k' } = some (t, body, after) ∧ commandRow l seq c own s = { t with links := k'' } := by
  have taken : ∀ u : State, (∃ k', u = { s with links := k' }) →
      (∃ k', ownerTakes l seq c own u = { s with links := k' })
        ∨ ∃ k' t body after k'', own { s with links := k' } = some (t, body, after) ∧ ownerTakes l seq c own u = { t with links := k'' } := by
    rintro u ⟨k, rfl⟩
    unfold ownerTakes
    split
    · split
      · obtain ⟨a, ha⟩ := finishCommand_only { s with links := k } l seq c.kind (.refused .resetting) .nothing
        exact .inl ⟨a, by rw [ha]⟩
      · split
        · exact .inl ⟨k, rfl⟩
        · rename_i t body after h
          obtain ⟨a, ha⟩ := finishCommand_only t l seq c.kind body after
          exact .inr ⟨k, t, body, after, a, h, ha⟩
    · exact .inl ⟨k, rfl⟩
  unfold commandRow
  split
  · exact taken s ⟨s.links, rfl⟩
  · exact taken _ (goodFrame_only s l _)

/-! ## Owning blocks -/

theorem helloOwner_only (l : Link) {t : State} {body : ReplyBody} {after : AfterReply}
    (h : helloOwner l s = some (t, body, after)) :
    ∃ d' k' w1 w2 w3, t = { s with device := d', links := k', wires := { s.wires with tableEnds := w1, readoutEnds := w2, journalLinkIn := w3 } } := by
  simp only [helloOwner, Option.some.injEq, Prod.mk.injEq] at h
  obtain ⟨a, b, c, d, e, he⟩ := endSession_only s l .rehello
  obtain ⟨rfl, -, -⟩ := h
  exact ⟨a, _, c, d, e, by rw [he]; rfl⟩

theorem byeOwner_only (l : Link) {t : State} {body : ReplyBody} {after : AfterReply}
    (h : byeOwner l s = some (t, body, after)) :
    ∃ k', t = { s with links := k' } := by
  unfold byeOwner at h
  all_goals first
    | contradiction
    | (simp only [Option.some.injEq, Prod.mk.injEq] at h; obtain ⟨rfl, -, -⟩ := h; first | exact ⟨s.links, rfl⟩ | exact ⟨_, rfl⟩)

theorem pingOwner_only (l : Link) {t : State} {body : ReplyBody} {after : AfterReply}
    (h : pingOwner l s = some (t, body, after)) :
    t = s := by
  unfold pingOwner at h
  all_goals first
    | contradiction
    | (simp only [Option.some.injEq, Prod.mk.injEq] at h; exact h.1.symm)

theorem getOwner_only (l : Link) (id : BitVec 16) {t : State} {body : ReplyBody} {after : AfterReply}
    (h : getOwner l id s = some (t, body, after)) :
    t = s := by
  unfold getOwner at h
  repeat' split at h
  all_goals first
    | contradiction
    | (simp only [Option.some.injEq, Prod.mk.injEq] at h; exact h.1.symm)

theorem setOwner_only (l : Link) (id : BitVec 16) (v : List Byte) {t : State} {body : ReplyBody} {after : AfterReply}
    (h : setOwner l id v s = some (t, body, after)) :
    ∃ x' d' k' w1 w2 w3, t = { s with items := x', device := d', links := k', wires := { s.wires with tableEnds := w1, readoutEnds := w2, journalLinkIn := w3 } } := by
  have ends : ∀ u : State, ∃ d' k' w1 w2 w3, endIfOverdue (otherLink l) u
      = { u with device := d', links := k', wires := { u.wires with tableEnds := w1, readoutEnds := w2, journalLinkIn := w3 } } := by
    intro u
    unfold endIfOverdue
    split
    · exact endSession_only u _ _
    · exact ⟨u.device, u.links, u.wires.tableEnds, u.wires.readoutEnds, u.wires.journalLinkIn, rfl⟩
  unfold setOwner at h
  split at h
  · simp only [Option.some.injEq, Prod.mk.injEq] at h
    obtain ⟨rfl, -, -⟩ := h
    exact ⟨s.items, s.device, s.links, s.wires.tableEnds, s.wires.readoutEnds, s.wires.journalLinkIn, rfl⟩
  · rename_i x items _
    simp only [Option.some.injEq, Prod.mk.injEq] at h
    obtain ⟨rfl, -, -⟩ := h
    obtain ⟨d, k, a, b, c, he⟩ := ends (s.setItems items)
    unfold afterSet
    repeat' split
    · exact ⟨_, s.device, s.links, s.wires.tableEnds, s.wires.readoutEnds, s.wires.journalLinkIn, rfl⟩
    · exact ⟨_, s.device, _, s.wires.tableEnds, s.wires.readoutEnds, s.wires.journalLinkIn, rfl⟩
    · exact ⟨items, d, k, a, b, c, by rw [he]; rfl⟩
    · exact ⟨_, s.device, s.links, s.wires.tableEnds, s.wires.readoutEnds, s.wires.journalLinkIn, rfl⟩

theorem deviceResetOwner_only (l : Link) (b : Byte) {t : State} {body : ReplyBody} {after : AfterReply}
    (h : deviceResetOwner l b s = some (t, body, after)) :
    ∃ d', t = { s with device := d' } := by
  unfold deviceResetOwner at h
  repeat' split at h
  all_goals first
    | contradiction
    | (simp only [Option.some.injEq, Prod.mk.injEq] at h; obtain ⟨rfl, -, -⟩ := h; first | exact ⟨s.device, rfl⟩ | exact ⟨_, rfl⟩)

theorem ringAppend_only :
    ∃ r' w1 w2, ringAppend s = { s with ring := r', wires := { s.wires with ringIn := w1, reads := w2 } } := by
  unfold ringAppend
  repeat' split
  all_goals first | exact ⟨s.ring, s.wires.ringIn, s.wires.reads, rfl⟩ | exact ⟨_, _, _, rfl⟩

theorem ringCatchUp_only :
    ∃ r' w1 w2, ringCatchUp s = { s with ring := r', wires := { s.wires with ringIn := w1, reads := w2 } } := by
  unfold ringCatchUp
  generalize s.wires.ringIn = cs
  induction cs generalizing s with
  | nil => exact ⟨s.ring, s.wires.ringIn, s.wires.reads, rfl⟩
  | cons c rest ih =>
    obtain ⟨r, a, b, h⟩ := ringAppend_only s
    obtain ⟨r', a', b', h'⟩ := ih (ringAppend s)
    exact ⟨r', a', b', by rw [List.foldl_cons, h', h]⟩

theorem ringTakeStart_only :
    ∃ w1 w2, ringTakeStart s = { s with ring := [], wires := { s.wires with ringIn := w1, reads := w2 } } := by
  obtain ⟨r, a, b, h⟩ := ringCatchUp_only s
  exact ⟨a, _, by rw [ringTakeStart, h]; rfl⟩

theorem startOwner_only {t : State} {body : ReplyBody} {after : AfterReply}
    (h : startOwner s = some (t, body, after)) :
    ∃ m' r' c' i' w1 w2 w3 w4, t = { s with time := m', ring := r', cond := c', injector := i', wires := { s.wires with ringIn := w1, injectorStop := w2, journalIn := w3, reads := w4 } } := by
  unfold startOwner at h
  repeat' split at h
  all_goals (simp only [Option.some.injEq, Prod.mk.injEq] at h; obtain ⟨rfl, -, -⟩ := h)
  iterate 3 exact ⟨s.time, s.ring, s.cond, s.injector, s.wires.ringIn, s.wires.injectorStop, s.wires.journalIn, s.wires.reads, rfl⟩
  obtain ⟨a, b, e⟩ := ringTakeStart_only s
  exact ⟨_, _, _, _, _, _, _, _, by rw [acceptStart, e]; rfl⟩

theorem stopOwner_only {t : State} {body : ReplyBody} {after : AfterReply}
    (h : stopOwner s = some (t, body, after)) :
    ∃ m' w1 w2 w3 w4, t = { s with time := m', wires := { s.wires with slotIn := w1, injectorStop := w2, trigIn := w3, journalIn := w4 } } := by
  unfold stopOwner at h
  repeat' split at h
  all_goals first
    | contradiction
    | (simp only [Option.some.injEq, Prod.mk.injEq] at h; obtain ⟨rfl, -, -⟩ := h; first | exact ⟨s.time, s.wires.slotIn, s.wires.injectorStop, s.wires.trigIn, s.wires.journalIn, rfl⟩ | exact ⟨_, _, _, _, _, rfl⟩)

theorem snapshotOwner_only {t : State} {body : ReplyBody} {after : AfterReply}
    (h : snapshotOwner s = some (t, body, after)) :
    t = s := by
  unfold snapshotOwner at h
  all_goals first
    | contradiction
    | (simp only [Option.some.injEq, Prod.mk.injEq] at h; exact h.1.symm)

theorem triggerOwner_only (o : Offer) {t : State} {body : ReplyBody} {after : AfterReply}
    (h : triggerOwner o s = some (t, body, after)) :
    ∃ t' w1, t = { s with table := t', wires := { s.wires with triggerEntries := w1 } } := by
  obtain ⟨a, ha⟩ := takeOffer_only s o
  unfold triggerOwner at h
  split at h <;> rename_i u _ ho <;> rw [ho] at ha
  all_goals
    simp only [Option.some.injEq, Prod.mk.injEq] at h
    obtain ⟨rfl, -, -⟩ := h
    subst ha
  · exact ⟨a, _, rfl⟩
  · exact ⟨a, s.wires.triggerEntries, rfl⟩

theorem abortOwner_only (l : Link) (i f : Byte) {t : State} {body : ReplyBody} {after : AfterReply}
    (h : abortOwner l i f s = some (t, body, after)) :
    ∃ t' w1 w2 w3, t = { s with table := t', wires := { s.wires with drops := w1, tableReturns := w2, readoutIn := w3 } } := by
  have drop : ∀ (e : Engine) (j : Fin 8) (n : Nat) (u : State), ∃ w1, orderDrop e j n u
      = { u with wires := { u.wires with drops := w1 } } := by
    intro e j n u; unfold orderDrop; split <;> exact ⟨_, rfl⟩
  have work : ∀ (j : Fin 8) (c : Capture), ∃ t' w1, abortWork j c s = { s with table := t', wires := { s.wires with drops := w1 } } := by
    intro j c
    unfold abortWork
    split
    · exact ⟨_, s.wires.drops, rfl⟩
    · obtain ⟨a, ha⟩ := drop .e0 j c.serial s
      obtain ⟨b, hb⟩ := drop .e1 j c.serial (orderDrop .e0 j c.serial s)
      exact ⟨s.table, b, by rw [hb, ha]⟩
    · exact ⟨s.table, s.wires.drops, rfl⟩
  unfold abortOwner at h
  repeat' split at h
  all_goals first
    | contradiction
    | (simp only [Option.some.injEq, Prod.mk.injEq] at h; obtain ⟨rfl, -, -⟩ := h)
  all_goals first
    | exact ⟨s.table, s.wires.drops, s.wires.tableReturns, s.wires.readoutIn, rfl⟩
    | skip
  rename_i j _ _ c _ _
  obtain ⟨a, b, hw⟩ := work j c
  unfold acceptAbort emptySlot
  rw [hw]
  obtain ⟨r, hr⟩ := returnFromTable_only (State.modTable { s with table := a, wires := { s.wires with drops := b } } fun t => t.clear j) c.blocks
  exact ⟨_, _, r, _, by rw [hr]; rfl⟩

theorem slotStatusOwner_only (l : Link) (i : Byte) {t : State} {body : ReplyBody} {after : AfterReply}
    (h : slotStatusOwner l i s = some (t, body, after)) :
    t = s := by
  unfold slotStatusOwner at h
  repeat' split at h
  all_goals first
    | contradiction
    | (simp only [Option.some.injEq, Prod.mk.injEq] at h; exact h.1.symm)

theorem fetchOwner_only (l : Link) (i c p : Byte) {t : State} {body : ReplyBody} {after : AfterReply}
    (h : fetchOwner l i c p s = some (t, body, after)) :
    ∃ t' q', t = { s with table := t', readouts := q' } := by
  have taken : ∀ (j : Fin 8) (b : Bool) (n : Nat), ∃ t' q', (tableTakeFetch l j b n s).1 = { s with table := t', readouts := q' } := by
    intro j b n
    unfold tableTakeFetch fetchPending fetchQueued
    repeat' split
    all_goals first | exact ⟨s.table, s.readouts, rfl⟩ | exact ⟨_, _, rfl⟩
  unfold fetchOwner at h
  repeat' split at h
  all_goals first
    | contradiction
    | (simp only [Option.some.injEq, Prod.mk.injEq] at h; obtain ⟨rfl, -, -⟩ := h)
  all_goals first
    | exact ⟨s.table, s.readouts, rfl⟩
    | exact taken _ _ _

theorem releaseOwner_only (l : Link) (i : Byte) (n : BitVec 16) {t : State} {body : ReplyBody} {after : AfterReply}
    (h : releaseOwner l i n s = some (t, body, after)) :
    ∃ t' w1 w2, t = { s with table := t', wires := { s.wires with tableReturns := w1, readoutIn := w2 } } := by
  unfold releaseOwner at h
  repeat' split at h
  all_goals first
    | contradiction
    | (simp only [Option.some.injEq, Prod.mk.injEq] at h; obtain ⟨rfl, -, -⟩ := h)
  all_goals first
    | exact ⟨s.table, s.wires.tableReturns, s.wires.readoutIn, rfl⟩
    | skip
  rename_i j _ _ _ c _ _ _
  unfold acceptRelease emptySlot
  obtain ⟨r, hr⟩ := returnFromTable_only (s.modTable fun t => t.clear j) c.blocks
  exact ⟨_, r, _, by rw [hr]; rfl⟩

theorem subscribeOwner_only (l : Link) (p : Byte) {t : State} {body : ReplyBody} {after : AfterReply}
    (h : subscribeOwner l p s = some (t, body, after)) :
    ∃ j', t = { s with journal := j' } := by
  unfold subscribeOwner at h
  repeat' split at h
  all_goals first
    | contradiction
    | (simp only [Option.some.injEq, Prod.mk.injEq] at h; obtain ⟨rfl, -, -⟩ := h; first | exact ⟨s.journal, rfl⟩ | exact ⟨_, rfl⟩)

theorem ackOwner_only (l : Link) (n : BitVec 32) {t : State} {body : ReplyBody} {after : AfterReply}
    (h : ackOwner l n s = some (t, body, after)) :
    ∃ j', t = { s with journal := j' } := by
  unfold ackOwner at h
  repeat' split at h
  all_goals first
    | contradiction
    | (simp only [Option.some.injEq, Prod.mk.injEq] at h; obtain ⟨rfl, -, -⟩ := h; first | exact ⟨s.journal, rfl⟩ | exact ⟨_, rfl⟩)

theorem rewindOwner_only (l : Link) {t : State} {body : ReplyBody} {after : AfterReply}
    (h : rewindOwner l s = some (t, body, after)) :
    ∃ j', t = { s with journal := j' } := by
  unfold rewindOwner at h
  repeat' split at h
  all_goals first
    | contradiction
    | (simp only [Option.some.injEq, Prod.mk.injEq] at h; obtain ⟨rfl, -, -⟩ := h; first | exact ⟨s.journal, rfl⟩ | exact ⟨_, rfl⟩)

theorem unsubscribeOwner_only (l : Link) {t : State} {body : ReplyBody} {after : AfterReply}
    (h : unsubscribeOwner l s = some (t, body, after)) :
    ∃ j', t = { s with journal := j' } := by
  unfold unsubscribeOwner at h
  repeat' split at h
  all_goals first
    | contradiction
    | (simp only [Option.some.injEq, Prod.mk.injEq] at h; obtain ⟨rfl, -, -⟩ := h; first | exact ⟨s.journal, rfl⟩ | exact ⟨_, rfl⟩)

theorem testOwner_only (ch : Bitmap) (d w g : BitVec 16) (n i : Byte) (td lb : BitVec 16) {t : State} {body : ReplyBody} {after : AfterReply}
    (h : testOwner ch d w g n i td lb s = some (t, body, after)) :
    ∃ i' t' w1, t = { s with injector := i', table := t', wires := { s.wires with testEntries := w1 } } := by
  have offered : ∀ (f : TestFields) (j : Fin 8), ∃ i' t' w1, (offerTest f j s).1
      = { s with injector := i', table := t', wires := { s.wires with testEntries := w1 } } := by
    intro f j
    obtain ⟨a, ha⟩ := takeOffer_only s (testOffer f j)
    unfold offerTest
    split <;> rename_i u _ ho <;> rw [ho] at ha <;> simp only at ha <;> subst ha
    · exact ⟨_, a, _, rfl⟩
    · exact ⟨s.injector, a, s.wires.testEntries, rfl⟩
  unfold testOwner at h
  split at h
  · simp only [Option.some.injEq, Prod.mk.injEq] at h
    obtain ⟨rfl, -, -⟩ := h
    exact ⟨s.injector, s.table, s.wires.testEntries, rfl⟩
  · rename_i f _
    split at h
    · simp only [Option.some.injEq, Prod.mk.injEq] at h
      obtain ⟨rfl, -, -⟩ := h
      exact ⟨s.injector, s.table, s.wires.testEntries, rfl⟩
    · split at h
      · simp only [Option.some.injEq, Prod.mk.injEq] at h
        obtain ⟨rfl, -, -⟩ := h
        exact ⟨s.injector, s.table, s.wires.testEntries, rfl⟩
      · simp only [Option.some.injEq, Prod.mk.injEq] at h
        obtain ⟨rfl, -, -⟩ := h
        split
        · exact ⟨_, s.table, s.wires.testEntries, rfl⟩
        · exact offered f _

theorem testCancelOwner_only {t : State} {body : ReplyBody} {after : AfterReply}
    (h : testCancelOwner s = some (t, body, after)) :
    ∃ i', t = { s with injector := i' } := by
  unfold testCancelOwner at h
  all_goals first
    | contradiction
    | (simp only [Option.some.injEq, Prod.mk.injEq] at h; obtain ⟨rfl, -, -⟩ := h; first | exact ⟨s.injector, rfl⟩ | exact ⟨_, rfl⟩)

theorem faultsReadOwner_only {t : State} {body : ReplyBody} {after : AfterReply}
    (h : faultsReadOwner s = some (t, body, after)) :
    t = s := by
  unfold faultsReadOwner at h
  all_goals first
    | contradiction
    | (simp only [Option.some.injEq, Prod.mk.injEq] at h; exact h.1.symm)

theorem faultsClearOwner_only (n : BitVec 16) {t : State} {body : ReplyBody} {after : AfterReply}
    (h : faultsClearOwner n s = some (t, body, after)) :
    ∃ f', t = { s with faults := f' } := by
  unfold faultsClearOwner at h
  all_goals first
    | contradiction
    | (simp only [Option.some.injEq, Prod.mk.injEq] at h; obtain ⟨rfl, -, -⟩ := h; first | exact ⟨s.faults, rfl⟩ | exact ⟨_, rfl⟩)

/-! ## Happenings -/

theorem makeSample_only (pins : Bitmap) (senses : GroupSet) :
    ∃ m' c' i' r' w1 w2 w3 w4 w5 w6, makeSample pins senses s = { s with time := m', cond := c', injector := i', ring := r', wires := { s.wires with ringIn := w1, journalIn := w2, trigIn := w3, slotIn := w4, sampleFaults := w5, reads := w6 } } := by
  unfold makeSample
  split
  · obtain ⟨r, a, b, h⟩ := ringCatchUp_only s
    rw [h]
    exact ⟨_, _, _, _, _, _, _, _, _, _, rfl⟩
  · exact ⟨s.time, s.cond, s.injector, s.ring, s.wires.ringIn, s.wires.journalIn, s.wires.trigIn, s.wires.slotIn, s.wires.sampleFaults, s.wires.reads, rfl⟩

theorem damageRow_only (k : Nat) (a b : Bitmap) (m : Bool) (n : Nat) :
    ∃ r', damageRow k a b m n s = { s with ring := r' } := by
  unfold damageRow
  all_goals first | exact ⟨s.ring, rfl⟩ | exact ⟨_, rfl⟩

theorem journalTakeSample_only :
    ∃ j' w1, journalTakeSample s = { s with journal := j', wires := { s.wires with journalIn := w1 } } := by
  unfold journalTakeSample
  repeat' split
  all_goals first | exact ⟨s.journal, s.wires.journalIn, rfl⟩ | exact ⟨_, _, rfl⟩

theorem journalRunStart_only :
    ∃ j' w1, journalRunStart s = { s with journal := j', wires := { s.wires with journalIn := w1 } } := by
  unfold journalRunStart
  repeat' split
  all_goals first | exact ⟨s.journal, s.wires.journalIn, rfl⟩ | exact ⟨_, _, rfl⟩

theorem journalRunStop_only :
    ∃ j' w1, journalRunStop s = { s with journal := j', wires := { s.wires with journalIn := w1 } } := by
  unfold journalRunStop
  repeat' split
  all_goals first | exact ⟨s.journal, s.wires.journalIn, rfl⟩ | exact ⟨_, _, rfl⟩

theorem journalTakeTriggerEntry_only (g : EntryGiver) :
    ∃ j' w1 w2, journalTakeTriggerEntry g s = { s with journal := j', wires := { s.wires with triggerEntries := w1, testEntries := w2 } } := by
  unfold journalTakeTriggerEntry State.popTriggerEntry
  cases g <;> simp only
  · cases hw : s.wires.triggerEntries
    · exact ⟨s.journal, s.wires.triggerEntries, s.wires.testEntries, rfl⟩
    · exact ⟨_, _, s.wires.testEntries, rfl⟩
  · cases hw : s.wires.testEntries
    · exact ⟨s.journal, s.wires.triggerEntries, s.wires.testEntries, rfl⟩
    · exact ⟨_, s.wires.triggerEntries, _, rfl⟩

theorem alertRule_only (c : Change) (k : Nat) :
    ∃ k' u', alertRule c k s = { s with links := k', trig := u' } := by
  unfold alertRule
  obtain ⟨a, ha⟩ := notifyBoth_only (s.modTrig fun t =>
    { t with alert := true, alertCountdown := s.items.alertWidth, alertTransitions := wrap32 (t.alertTransitions + 1) })
    fun n => n.addAlert c.channel k
  exact ⟨a, _, by rw [ha]; rfl⟩

theorem autoRule_only (c : Change) (k : Nat) :
    ∃ u' t' w1 w2, autoRule c k s = { s with trig := u', table := t', wires := { s.wires with triggerEntries := w1, triggerFaults := w2 } } := by
  unfold autoRule
  split
  · exact ⟨_, s.table, s.wires.triggerEntries, s.wires.triggerFaults, rfl⟩
  · obtain ⟨a, ha⟩ := takeOffer_only (s.modTrig fun t => { t with holdoff := s.items.autoHoldoff }) (autoOffer c k)
    simp only [ha]
    unfold autoAnswered
    split
    · exact ⟨_, a, _, s.wires.triggerFaults, rfl⟩
    · exact ⟨_, a, _, _, rfl⟩
    · exact ⟨_, a, s.wires.triggerEntries, s.wires.triggerFaults, rfl⟩
    · exact ⟨_, a, _, s.wires.triggerFaults, rfl⟩

theorem transitionRules_only (k : Nat) (c : Change) :
    ∃ k' u' t' w1 w2, transitionRules k s c = { s with links := k', trig := u', table := t', wires := { s.wires with triggerEntries := w1, triggerFaults := w2 } } := by
  have alerted : ∃ k' u', (if c.alert then alertRule c k s else s) = { s with links := k', trig := u' } := by
    split
    · exact alertRule_only s c k
    · exact ⟨s.links, s.trig, rfl⟩
  unfold transitionRules
  split
  · obtain ⟨a, b, hab⟩ := alerted
    simp only [hab]
    split
    · obtain ⟨p, q, m, n, h⟩ := autoRule_only { s with links := a, trig := b } c k
      exact ⟨a, p, q, m, n, h⟩
    · exact ⟨a, b, s.table, s.wires.triggerEntries, s.wires.triggerFaults, rfl⟩
  · exact ⟨s.links, s.trig, s.table, s.wires.triggerEntries, s.wires.triggerFaults, rfl⟩

theorem transitions_only (k : Nat) (cs : List Change) : ∀ s : State, ∃ k' u' t' w1 w2, cs.foldl (transitionRules k) s
    = { s with links := k', trig := u', table := t', wires := { s.wires with triggerEntries := w1, triggerFaults := w2 } } := by
  induction cs with
  | nil => intro s; exact ⟨s.links, s.trig, s.table, s.wires.triggerEntries, s.wires.triggerFaults, rfl⟩
  | cons c rest ih =>
    intro s
    obtain ⟨a, b, d, m, n, h⟩ := transitionRules_only s k c
    obtain ⟨a', b', d', m', n', h'⟩ := ih (transitionRules k s c)
    exact ⟨a', b', d', m', n', by rw [List.foldl_cons, h', h]⟩

theorem trigUnitTakeSample_only :
    ∃ k' u' t' w1 w2 w3, trigUnitTakeSample s = { s with links := k', trig := u', table := t', wires := { s.wires with trigIn := w1, triggerEntries := w2, triggerFaults := w3 } } := by
  unfold trigUnitTakeSample
  split
  · rename_i c rest _
    unfold trigUnitSample
    obtain ⟨a, b, d, m, n, h⟩ := transitions_only c.tick c.changes
      ((s.modWires fun w => { w with trigIn := rest }).modTrig TriggerUnit.countDown)
    exact ⟨a, _, d, rest, m, n, by rw [h]; rfl⟩
  · exact ⟨s.links, s.trig, s.table, s.wires.trigIn, s.wires.triggerEntries, s.wires.triggerFaults, rfl⟩

theorem trigUnitTakeStop_only :
    ∃ u' w1, trigUnitTakeStop s = { s with trig := u', wires := { s.wires with trigIn := w1 } } := by
  unfold trigUnitTakeStop
  repeat' split
  all_goals first | exact ⟨s.trig, s.wires.trigIn, rfl⟩ | exact ⟨_, _, rfl⟩

theorem tableTakeSample_only :
    ∃ t' w1, tableTakeSample s = { s with table := t', wires := { s.wires with slotIn := w1 } } := by
  unfold tableTakeSample
  repeat' split
  all_goals first | exact ⟨s.table, s.wires.slotIn, rfl⟩ | exact ⟨_, _, rfl⟩

theorem tableTakeStop_only :
    ∃ t' w1 w2, tableTakeStop s = { s with table := t', wires := { s.wires with slotIn := w1, readoutIn := w2 } } := by
  unfold tableTakeStop
  split
  · obtain ⟨a, ha⟩ := tellAll_only (s.table.stopNews s.tableNewest) (s.modTable fun t => t.takeStop s.tableNewest)
    exact ⟨_, _, a, by simp only [ha]; rfl⟩
  · exact ⟨s.table, s.wires.slotIn, s.wires.readoutIn, rfl⟩

theorem tableTakeOffer_only :
    ∃ t' w1 w2, tableTakeOffer s = { s with table := t', wires := { s.wires with lineOffers := w1, lineAnswers := w2 } } := by
  unfold tableTakeOffer
  split
  · exact ⟨s.table, s.wires.lineOffers, s.wires.lineAnswers, rfl⟩
  · rename_i o rest _
    obtain ⟨a, ha⟩ := takeOffer_only (s.modWires fun w => { w with lineOffers := rest }) o
    exact ⟨a, rest, _, by simp only [ha]; rfl⟩

theorem faultRecord_only (r : Reporter) :
    ∃ f' k' w1 w2 w3, faultRecord r s = { s with faults := f', links := k', wires := { s.wires with sampleFaults := w1, engineFaults := w2, triggerFaults := w3 } } := by
  have recorded : ∀ (xs : List FaultReport) (u : State), ∃ f' k', recordFaults xs u = { u with faults := f', links := k' } := by
    intro xs u
    unfold recordFaults
    obtain ⟨a, ha⟩ := notifyBoth_only (u.setFaults (xs.foldl FaultLog.record u.faults)) fun n => { n with fault := true }
    exact ⟨_, a, by rw [ha]; rfl⟩
  unfold faultRecord State.popFaults
  cases r with
  | sample =>
    cases hw : s.wires.sampleFaults with
    | nil => exact ⟨s.faults, s.links, s.wires.sampleFaults, s.wires.engineFaults, s.wires.triggerFaults, rfl⟩
    | cons xs rest =>
      obtain ⟨a, b, h⟩ := recorded xs (s.modWires fun w => { w with sampleFaults := rest })
      exact ⟨a, b, rest, s.wires.engineFaults, s.wires.triggerFaults, h⟩
  | engine e =>
    cases hw : s.wires.engineFaults.get e with
    | nil =>
      exact ⟨s.faults, s.links, s.wires.sampleFaults, s.wires.engineFaults, s.wires.triggerFaults, by simp only [hw]⟩
    | cons x rest =>
      obtain ⟨a, b, h⟩ := recorded [x] (s.modWires fun w => { w with engineFaults := w.engineFaults.set e rest })
      exact ⟨a, b, s.wires.sampleFaults, _, s.wires.triggerFaults, by simp only [hw]; exact h⟩
  | triggerUnit =>
    cases hw : s.wires.triggerFaults with
    | nil => exact ⟨s.faults, s.links, s.wires.sampleFaults, s.wires.engineFaults, s.wires.triggerFaults, rfl⟩
    | cons x rest =>
      obtain ⟨a, b, h⟩ := recorded [x] (s.modWires fun w => { w with triggerFaults := rest })
      exact ⟨a, b, s.wires.sampleFaults, s.wires.engineFaults, rest, h⟩

theorem limitStop_only :
    ∃ m' w1 w2 w3 w4, limitStop s = { s with time := m', wires := { s.wires with slotIn := w1, injectorStop := w2, trigIn := w3, journalIn := w4 } } := by
  unfold limitStop handStop
  repeat' split
  all_goals first | exact ⟨s.time, s.wires.slotIn, s.wires.injectorStop, s.wires.trigIn, s.wires.journalIn, rfl⟩ | exact ⟨_, _, _, _, _, rfl⟩

theorem injectorTakeStop_only :
    ∃ i' w1, injectorTakeStop s = { s with injector := i', wires := { s.wires with injectorStop := w1 } } := by
  unfold injectorTakeStop
  repeat' split
  all_goals first | exact ⟨s.injector, s.wires.injectorStop, rfl⟩ | exact ⟨_, _, rfl⟩

theorem completeWord_only (b : BitVec 13) :
    ∃ u' w1, completeWord b s = { s with trig := u', wires := { s.wires with lineOffers := w1 } } := by
  unfold completeWord
  repeat' split
  all_goals first | exact ⟨s.trig, s.wires.lineOffers, rfl⟩ | exact ⟨_, _, rfl⟩

theorem takeLineAnswer_only :
    ∃ u' w1 w2, takeLineAnswer s = { s with trig := u', wires := { s.wires with lineAnswers := w1, triggerEntries := w2 } } := by
  unfold takeLineAnswer lineAnswered
  repeat' split
  · exact ⟨s.trig, s.wires.lineAnswers, s.wires.triggerEntries, rfl⟩
  · exact ⟨_, _, _, rfl⟩
  · exact ⟨_, _, s.wires.triggerEntries, rfl⟩
  · exact ⟨_, _, _, rfl⟩

theorem engineTakeSlot_only :
    ∃ t' e' w1, engineTakeSlot s = { s with table := t', engines := e', wires := { s.wires with reads := w1 } } := by
  unfold engineTakeSlot giveHead
  repeat' split
  all_goals first | exact ⟨s.table, s.engines, s.wires.reads, rfl⟩ | exact ⟨_, _, _, rfl⟩

theorem extractionBegin_only (e : Engine) :
    ∃ e' w1 w2, extractionBegin e s = { s with engines := e', wires := { s.wires with reads := w1, engineFaults := w2 } } := by
  unfold extractionBegin
  repeat' split
  all_goals first | exact ⟨s.engines, s.wires.reads, s.wires.engineFaults, rfl⟩ | exact ⟨_, _, _, rfl⟩

theorem extractionRow_only (e : Engine) :
    ∃ e' w1 w2, extractionRow e s = { s with engines := e', wires := { s.wires with engineFaults := w1, blockRequests := w2 } } := by
  unfold extractionRow State.setWorking
  dsimp only
  repeat' split
  all_goals first | exact ⟨s.engines, s.wires.engineFaults, s.wires.blockRequests, rfl⟩ | exact ⟨_, _, _, rfl⟩

theorem blockRequest_only (e : Engine) (k : Nat) :
    ∃ p' w1 w2, blockRequest e k s = { s with pool := p', wires := { s.wires with blockRequests := w1, blockAnswers := w2 } } := by
  unfold blockRequest
  repeat' split
  all_goals first | exact ⟨s.pool, s.wires.blockRequests, s.wires.blockAnswers, rfl⟩ | exact ⟨_, _, _, rfl⟩

theorem blockAnswer_only (e : Engine) :
    ∃ e' w1 w2 w3, blockAnswer e s = { s with engines := e', wires := { s.wires with blockAnswers := w1, blockRequests := w2, engineFaults := w3 } } := by
  unfold blockAnswer State.setWorking
  repeat' split
  all_goals first | exact ⟨s.engines, s.wires.blockAnswers, s.wires.blockRequests, s.wires.engineFaults, rfl⟩ | exact ⟨_, _, _, _, rfl⟩

theorem extractionEnd_only (e : Engine) :
    ∃ e' w1, extractionEnd e s = { s with engines := e', wires := { s.wires with engineReturns := w1 } } := by
  unfold extractionEnd State.returnFromEngine
  repeat' split
  all_goals first | exact ⟨s.engines, s.wires.engineReturns, rfl⟩ | exact ⟨_, _, rfl⟩

theorem takeEnd_only (e : Engine) :
    ∃ t' e' w1 w2, takeEnd e s = { s with table := t', engines := e', wires := { s.wires with readoutIn := w1, tableReturns := w2 } } := by
  unfold takeEnd State.returnFromTable
  repeat' split
  all_goals first | exact ⟨s.table, s.engines, s.wires.readoutIn, s.wires.tableReturns, rfl⟩ | exact ⟨_, _, _, _, rfl⟩

theorem engineDrop_only (e : Engine) :
    ∃ e' w1 w2, engineDrop e s = { s with engines := e', wires := { s.wires with drops := w1, engineReturns := w2 } } := by
  unfold engineDrop State.returnFromEngine
  repeat' split
  all_goals first | exact ⟨s.engines, s.wires.drops, s.wires.engineReturns, rfl⟩ | exact ⟨_, _, _, rfl⟩

theorem lateEngineAnswer_only (e : Engine) (a : LateAnswer) :
    ∃ w1 w2 w3, lateEngineAnswer e a s = { s with wires := { s.wires with blockAnswers := w1, engineReturns := w2, reads := w3 } } := by
  unfold lateEngineAnswer lateGrant lateRingAnswer State.returnFromEngine
  repeat' split
  all_goals first | exact ⟨s.wires.blockAnswers, s.wires.engineReturns, s.wires.reads, rfl⟩ | exact ⟨_, _, _, rfl⟩

theorem poolReturn_only (g : BlockGiver) :
    ∃ p' w1 w2, poolReturn g s = { s with pool := p', wires := { s.wires with tableReturns := w1, engineReturns := w2 } } := by
  unfold poolReturn poolReturnTable poolReturnEngine
  repeat' split
  all_goals first | exact ⟨s.pool, s.wires.tableReturns, s.wires.engineReturns, rfl⟩ | exact ⟨_, _, _, rfl⟩

theorem readoutTakeReady_only (l : Link) :
    ∃ q' k' w1, readoutTakeReady l s = { s with readouts := q', links := k', wires := { s.wires with readoutIn := w1 } } := by
  unfold readoutTakeReady State.notify
  dsimp only
  repeat' split
  all_goals first | exact ⟨s.readouts, s.links, s.wires.readoutIn, rfl⟩ | exact ⟨_, _, _, rfl⟩

theorem readoutTakeAbort_only (l : Link) :
    ∃ q' w1, readoutTakeAbort l s = { s with readouts := q', wires := { s.wires with readoutIn := w1 } } := by
  unfold readoutTakeAbort
  repeat' split
  all_goals first | exact ⟨s.readouts, s.wires.readoutIn, rfl⟩ | exact ⟨_, _, rfl⟩

theorem readoutTakeRelease_only (l : Link) :
    ∃ q' w1, readoutTakeRelease l s = { s with readouts := q', wires := { s.wires with readoutIn := w1 } } := by
  unfold readoutTakeRelease
  repeat' split
  all_goals first | exact ⟨s.readouts, s.wires.readoutIn, rfl⟩ | exact ⟨_, _, rfl⟩

theorem tableTakeSessionEnd_only (l : Link) :
    ∃ t' w1 w2, tableTakeSessionEnd l s = { s with table := t', wires := { s.wires with tableEnds := w1, readoutIn := w2 } } := by
  unfold tableTakeSessionEnd
  repeat' split
  all_goals first | exact ⟨s.table, s.wires.tableEnds, s.wires.readoutIn, rfl⟩ | exact ⟨_, _, _, rfl⟩

theorem readoutTakeSessionEnd_only (l : Link) :
    ∃ q' w1, readoutTakeSessionEnd l s = { s with readouts := q', wires := { s.wires with readoutEnds := w1 } } := by
  unfold readoutTakeSessionEnd
  repeat' split
  all_goals first | exact ⟨s.readouts, s.wires.readoutEnds, rfl⟩ | exact ⟨_, _, rfl⟩

theorem journalTakeSessionEnd_only (l : Link) :
    ∃ j' w1, journalTakeSessionEnd l s = { s with journal := j', wires := { s.wires with journalLinkIn := w1 } } := by
  unfold journalTakeSessionEnd
  repeat' split
  all_goals first | exact ⟨s.journal, s.wires.journalLinkIn, rfl⟩ | exact ⟨_, _, rfl⟩

theorem journalFrameCompletion_only (l : Link) :
    ∃ j' w1, journalFrameCompletion l s = { s with journal := j', wires := { s.wires with journalLinkIn := w1 } } := by
  unfold journalFrameCompletion
  repeat' split
  all_goals first | exact ⟨s.journal, s.wires.journalLinkIn, rfl⟩ | exact ⟨_, _, rfl⟩

theorem journalFrameRequest_only (l : Link) :
    ∃ j' k' w1, journalFrameRequest l s = { s with journal := j', links := k', wires := { s.wires with journalLinkIn := w1 } } := by
  unfold journalFrameRequest
  repeat' split
  all_goals first | exact ⟨s.journal, s.links, s.wires.journalLinkIn, rfl⟩ | exact ⟨_, _, _, rfl⟩

theorem frameReceived_only (l : Link) :
    ∃ k', frameReceived l s = { s with links := k' } := by
  unfold frameReceived badFrame
  repeat' split
  · exact ⟨s.links, rfl⟩
  · obtain ⟨a, ha⟩ := goodFrame_only (s.modLink l _) l _
    exact ⟨a, by rw [ha]; rfl⟩
  · obtain ⟨a, ha⟩ := notify_only (State.modLink (s.modLink l _) l _) l _
    exact ⟨a, by rw [ha]; rfl⟩

theorem lineBreaks_only (l : Link) (h : Bool) :
    ∃ d' k' w1 w2 w3, lineBreaks l h s = { s with device := d', links := k', wires := { s.wires with tableEnds := w1, readoutEnds := w2, journalLinkIn := w3 } } := by
  unfold lineBreaks
  split
  · obtain ⟨a, b, c, d, e, he⟩ := endSession_only (s.modLink l LinkState.takeBreak) l .lineBreak
    exact ⟨a, b, c, d, e, he⟩
  · exact ⟨s.device, s.links, s.wires.tableEnds, s.wires.readoutEnds, s.wires.journalLinkIn, rfl⟩

theorem sessionTimeout_only (l : Link) :
    ∃ d' k' w1 w2 w3, sessionTimeout l s = { s with device := d', links := k', wires := { s.wires with tableEnds := w1, readoutEnds := w2, journalLinkIn := w3 } } := by
  unfold sessionTimeout
  split
  · exact endSession_only s l .timeout
  · exact ⟨s.device, s.links, s.wires.tableEnds, s.wires.readoutEnds, s.wires.journalLinkIn, rfl⟩

theorem afterReply_only (l : Link) (r : Reply) :
    ∃ d' k' w1 w2 w3, afterReply l r s = { s with device := d', links := k', wires := { s.wires with tableEnds := w1, readoutEnds := w2, journalLinkIn := w3 } } := by
  unfold afterReply
  repeat' split
  · exact ⟨s.device, s.links, s.wires.tableEnds, s.wires.readoutEnds, s.wires.journalLinkIn, rfl⟩
  · exact endSession_only s l .bye
  · exact ⟨s.device, s.links, s.wires.tableEnds, s.wires.readoutEnds, s.wires.journalLinkIn, rfl⟩
  · exact ⟨s.device, _, s.wires.tableEnds, s.wires.readoutEnds, s.wires.journalLinkIn, rfl⟩
  · exact ⟨_, s.links, s.wires.tableEnds, s.wires.readoutEnds, s.wires.journalLinkIn, rfl⟩
  · exact ⟨s.device, s.links, s.wires.tableEnds, s.wires.readoutEnds, s.wires.journalLinkIn, rfl⟩

theorem frameSent_only (l : Link) :
    ∃ d' k' w1 w2 w3, frameSent l s = { s with device := d', links := k', wires := { s.wires with tableEnds := w1, readoutEnds := w2, journalLinkIn := w3 } } := by
  unfold frameSent
  split
  · rename_i x _
    unfold afterFrame
    split
    · exact ⟨s.device, _, s.wires.tableEnds, s.wires.readoutEnds, _, rfl⟩
    · rename_i r _
      obtain ⟨a, b, c, d, e, he⟩ := afterReply_only (s.modLink l fun k => { k with tx := .idle }) l r
      exact ⟨a, b, c, d, e, he⟩
    · split
      · exact ⟨_, _, s.wires.tableEnds, s.wires.readoutEnds, s.wires.journalLinkIn, rfl⟩
      · exact ⟨s.device, _, s.wires.tableEnds, s.wires.readoutEnds, s.wires.journalLinkIn, rfl⟩
    · exact ⟨s.device, _, s.wires.tableEnds, s.wires.readoutEnds, s.wires.journalLinkIn, rfl⟩
  · exact ⟨s.device, s.links, s.wires.tableEnds, s.wires.readoutEnds, s.wires.journalLinkIn, rfl⟩

theorem linkRateTakeUp_only (l : Link) :
    ∃ k', linkRateTakeUp l s = { s with links := k' } := by
  exact ⟨_, rfl⟩

theorem giveCurrent_only (l : Link) (d : Delivery) :
    ∃ q', (giveCurrent l d s).1 = { s with readouts := q' } := by
  unfold giveCurrent
  repeat' split
  all_goals exact ⟨_, rfl⟩

theorem giveEntry_only (l : Link) (x : QueueEntry) :
    ∃ q', (giveEntry l x s).1 = { s with readouts := q' } := by
  unfold giveEntry
  repeat' split
  all_goals first | exact ⟨s.readouts, rfl⟩ | exact ⟨_, rfl⟩

theorem transmitChoose_only (l : Link) :
    ∃ k' q' w1, transmitChoose l s = { s with links := k', readouts := q', wires := { s.wires with journalLinkIn := w1 } } := by
  have given : ∀ u : State, ∃ k' q', askReadout l u = { u with links := k', readouts := q' } := by
    intro u
    unfold askReadout giveDelivery
    split
    · rename_i t b h
      split at h
      · contradiction
      · split at h
        · rename_i d _
          simp only [Option.some.injEq] at h
          obtain ⟨q, hq⟩ := giveCurrent_only u l d
          rw [h] at hq
          simp only at hq
          subst hq
          exact ⟨_, q, rfl⟩
        · split at h
          · contradiction
          · rename_i x rest _
            simp only [Option.some.injEq] at h
            obtain ⟨q, hq⟩ := giveEntry_only (u.modReadout l fun q => { q with queue := rest }) l x
            rw [h] at hq
            simp only at hq
            subst hq
            exact ⟨_, q, rfl⟩
    · exact ⟨_, u.readouts, rfl⟩
  unfold transmitChoose
  split
  · unfold chooseFrame chooseData askJournal
    dsimp only
    repeat' split
    · exact ⟨_, s.readouts, s.wires.journalLinkIn, rfl⟩
    · exact ⟨_, s.readouts, s.wires.journalLinkIn, rfl⟩
    · obtain ⟨a, b, h⟩ := given (s.modLink l LinkState.takeDueRate)
      exact ⟨a, b, s.wires.journalLinkIn, h⟩
    · exact ⟨_, s.readouts, _, rfl⟩
    · exact ⟨_, s.readouts, s.wires.journalLinkIn, rfl⟩
  · exact ⟨s.links, s.readouts, s.wires.journalLinkIn, rfl⟩

end Sys2Proof.Machine
end

