-- ==== Sys2Proof/Laws/Handler.lean ====
section
/-! SUPPORT. What the row of a host command does at a handler that is ready for it: the state its owning block is given, and the state with
the answer queued (R166, R168, R169). -/

namespace Sys2Proof.Machine

variable (s : State) (l : Link) (seq : Byte) (c : Command)

/-- The state an owning block is given: the good frame counted, the session timer at 0, and the command in hand (R166, R168 case 8). -/
def State.received : State :=
  s.modLink l fun k =>
    { k with
      counts := { k.counts with good := wrap32 (k.counts.good + 1) }
      sinceGood := 0
      inHand := some { seq := seq, command := c }
      waiting := [] }

theorem handlerReady_iff : handlerReady s l seq = true ↔
    s.resetPin = false ∧ s.resetPending = false ∧ (s.links.get l).session.isSome = true ∧ (s.links.get l).byeMark = false
      ∧ (s.links.get l).inHand = none ∧ (s.links.get l).waiting = [] ∧ (s.links.get l).replies.length < 4
      ∧ (s.links.get l).cache.map (·.seq) ≠ some seq := by
  simp only [handlerReady, handlerTakes, handlerFree, Bool.and_eq_true, Bool.not_eq_true', decide_eq_true_eq, bne_iff_ne,
    Option.isNone_iff_eq_none, List.isEmpty_iff]
  tauto

theorem finishCommand_idle (kind : Byte) (b : ReplyBody) (a : AfterReply) (hw : (s.links.get l).waiting = []) :
    finishCommand l seq kind b a s = s.modLink l fun k =>
      { k with
        inHand := none
        waiting := []
        replies := k.replies ++ [{ seq := seq, kind := kind, body := b, after := a }]
        cache := if k.session.isSome then some { seq := seq, kind := kind, body := b, after := a } else k.cache } := by
  simp [finishCommand, State.answer, State.modLink, hw, handlerPump]

/-- The row of a host command at a ready handler: the owner's happening on the received state, and its answer. -/
theorem commandRow_ready (own : Owner) (h : handlerReady s l seq = true) :
    commandRow l seq c own s = match own (s.received l seq c) with
      | none => s.received l seq c
      | some (t, b, a) => finishCommand l seq c.kind b a t := by
  obtain ⟨-, h2, h3, h4, h5, h6, h7, h8⟩ := (handlerReady_iff s l seq).1 h
  have hs : (s.links.get l).session ≠ none := by
    intro q; rw [q] at h3; simp at h3
  have hc : ((s.links.get l).cache.filter fun r => r.seq == seq) = none := by
    cases hh : (s.links.get l).cache with
    | none => rfl
    | some r =>
      rw [hh] at h8
      have : r.seq ≠ seq := by intro q; exact h8 (by simp [q])
      simp [Option.filter, this]
  have hr : ∀ k : PerLink LinkState, State.resetPending { s with links := k } = false := fun k => h2
  have take : handlerPump l [{ seq := seq, kind := c.kind, reading := .command c }]
      (s.modLink l fun k => { k with counts := { k.counts with good := wrap32 (k.counts.good + 1) }, sinceGood := 0 })
      = s.received l seq c := by
    have h7' : ¬ (4 ≤ (s.links.get l).replies.length) := by omega
    simp [handlerPump, handlerTake, State.modLink, State.received, h5, hc, hr, h4, Config.replyPlaces, h7', hs]
  have hg : goodFrame l { seq := seq, kind := c.kind, reading := .command c } s = s.received l seq c := by
    rw [← take]; simp [goodFrame, State.modLink, h6]
  have hi : ((s.received l seq c).links.get l).inHand = some { seq := seq, command := c } := by simp [State.received]
  have hp : (s.received l seq c).resetPending = false := h2
  unfold commandRow
  rw [if_neg (by rw [h5]; simp), hg]
  unfold ownerTakes
  cases own (s.received l seq c) <;> simp [hi, hp]

/-- The row of a host command whose owner neither reads nor changes the links. -/
theorem commandRow_answers {own : Owner} {t : State} {b : ReplyBody} {a : AfterReply} (h : handlerReady s l seq = true)
    (ho : ∀ k : PerLink LinkState, own { s with links := k } = some ({ t with links := k }, b, a)) (ht : t.links = s.links) :
    commandRow l seq c own s = t.answered l { seq := seq, kind := c.kind, body := b, after := a } := by
  obtain ⟨-, -, h3, -, h5, h6, -, -⟩ := (handlerReady_iff s l seq).1 h
  rw [commandRow_ready s l seq c own h]
  have e : s.received l seq c = { s with links := (s.received l seq c).links } := rfl
  rw [e, ho]
  dsimp only
  rw [finishCommand_idle _ _ _ _ _ _ (by simp [State.received])]
  simp [State.modLink, State.received, State.answered, LinkState.answered, LinkState.counted, ht, h3, h5, h6]

/-- A happening of the part while the reset pin is not asserted. -/
theorem unlessHeld_free {f : State → State} (h : s.resetPin = false) : unlessHeld f s = .next (f s) := by
  unfold unlessHeld; rw [h]; rfl

theorem handlerReady_free (h : handlerReady s l seq = true) : s.resetPin = false := ((handlerReady_iff s l seq).1 h).1

end Sys2Proof.Machine
end

