-- ==== Sys2Proof/WellFormed.lean ====
section
/-! DEFINITION. Which happenings can be written on the part's lines at all: the operands whose Lean type is wider than the part's. -/

namespace Sys2Proof

/-- A SET's value fits a frame: LEN is at most 240 and the identifier takes two bytes (R165, R181). -/
def Instr.valueFits : Instr → Bool
  | .set _ _ _ value => decide (value.length ≤ 238)
  | _ => true

/-- The tick a row is known by is a 40-bit tick of a sample, so at least 1 (R26, R36). -/
def Instr.rowTickFits : Instr → Bool
  | .rowDamage tick _ _ _ _ => decide (1 ≤ tick) && decide (tick ≤ Config.tickMax)
  | _ => true

/-- The pool picks one of at most 128 free blocks (R100, R101). -/
def Instr.pickFits : Instr → Bool
  | .blockRequest _ pick => decide (pick < Config.poolBlocks)
  | _ => true

/-- An upset leaves the row's fields no longer matching its check code, so some bit of the code differs (R41). -/
def Instr.upsetFits : Instr → Bool
  | .rowDamage _ _ _ _ syndrome => decide (syndrome ≠ 0)
  | _ => true

/-- A happening whose operands lie in the ranges of the part. -/
def Instr.wellFormed (i : Instr) : Bool := i.valueFits && i.rowTickFits && i.pickFits && i.upsetFits

end Sys2Proof
end

