-- ==== Sys2Proof/Laws/PerInstr.lean ====
section
/-! SUPPORT. Facts about every row of the table as syntax, one lemma per constructor. -/

namespace Sys2Proof.Laws.FitsItsFrame

open Sys2Proof Sys2Proof.Machine

/-- A well-formed host command has a body that a frame can carry: LEN is at most 240 (R165, R181). An event is no host command. -/
def Statement (i : Instr) : Prop :=
  i.wellFormed = true → ∀ (l : Link) (seq : Byte) (c : Command), hostCommand i = some (l, seq, c) → c.body.length ≤ 240

/-- An event is no host command, so it asks nothing of a frame. -/
theorem of_event {i : Instr} (h : hostCommand i = none) : Statement i := by
  intro _ l seq c e
  simp [h] at e

/-- A host command whose body fits a frame whatever its operands. -/
theorem of_body {i : Instr} {l : Link} {seq : Byte} {c : Command} (h : hostCommand i = some (l, seq, c)) (fits : c.body.length ≤ 240) :
    Statement i := by
  intro _ l' seq' c' e
  rw [h] at e
  cases e
  exact fits

theorem hello (l : Link) (seq : Byte) : Statement (.hello l seq) :=
  of_body rfl (Nat.le_of_ble_eq_true rfl)

theorem bye (l : Link) (seq : Byte) : Statement (.bye l seq) :=
  of_body rfl (Nat.le_of_ble_eq_true rfl)

theorem ping (l : Link) (seq : Byte) : Statement (.ping l seq) :=
  of_body rfl (Nat.le_of_ble_eq_true rfl)

theorem get (l : Link) (seq : Byte) (item : BitVec 16) : Statement (.get l seq item) :=
  of_body rfl (Nat.le_of_ble_eq_true rfl)

theorem set (l : Link) (seq : Byte) (item : BitVec 16) (value : List Byte) : Statement (.set l seq item value) := by
  intro fits _ _ _ e
  cases e
  simp [Instr.wellFormed, Instr.valueFits, Instr.rowTickFits, Instr.pickFits, Instr.upsetFits] at fits
  simp [Command.body, bytes16]
  omega

theorem deviceReset (l : Link) (seq : Byte) (keepConfig : Byte) : Statement (.deviceReset l seq keepConfig) :=
  of_body rfl (Nat.le_of_ble_eq_true rfl)

theorem start (l : Link) (seq : Byte) : Statement (.start l seq) :=
  of_body rfl (Nat.le_of_ble_eq_true rfl)

theorem stop (l : Link) (seq : Byte) : Statement (.stop l seq) :=
  of_body rfl (Nat.le_of_ble_eq_true rfl)

theorem snapshot (l : Link) (seq : Byte) : Statement (.snapshot l seq) :=
  of_body rfl (Nat.le_of_ble_eq_true rfl)

theorem trigger (l : Link) (seq : Byte) (slot kind : Byte) (tick : BitVec 40) (pre post label : BitVec 16) : Statement (.trigger l seq slot kind tick pre post label) :=
  of_body rfl (Nat.le_of_ble_eq_true rfl)

theorem abort (l : Link) (seq : Byte) (slot force : Byte) : Statement (.abort l seq slot force) :=
  of_body rfl (Nat.le_of_ble_eq_true rfl)

theorem slotStatus (l : Link) (seq : Byte) (slot : Byte) : Statement (.slotStatus l seq slot) :=
  of_body rfl (Nat.le_of_ble_eq_true rfl)

theorem fetch (l : Link) (seq : Byte) (slot claim fromPart : Byte) : Statement (.fetch l seq slot claim fromPart) :=
  of_body rfl (Nat.le_of_ble_eq_true rfl)

theorem release (l : Link) (seq : Byte) (slot : Byte) (serial : BitVec 16) : Statement (.release l seq slot serial) :=
  of_body rfl (Nat.le_of_ble_eq_true rfl)

theorem journalSubscribe (l : Link) (seq : Byte) (position : Byte) : Statement (.journalSubscribe l seq position) :=
  of_body rfl (Nat.le_of_ble_eq_true rfl)

theorem journalAck (l : Link) (seq : Byte) (upTo : BitVec 32) : Statement (.journalAck l seq upTo) :=
  of_body rfl (Nat.le_of_ble_eq_true rfl)

theorem journalRewind (l : Link) (seq : Byte) : Statement (.journalRewind l seq) :=
  of_body rfl (Nat.le_of_ble_eq_true rfl)

theorem journalUnsubscribe (l : Link) (seq : Byte) : Statement (.journalUnsubscribe l seq) :=
  of_body rfl (Nat.le_of_ble_eq_true rfl)

theorem test (l : Link) (seq : Byte) (channels : Bitmap) (delay width gap : BitVec 16) (count slot : Byte) (trigDelay label : BitVec 16) : Statement (.test l seq channels delay width gap count slot trigDelay label) :=
  of_body rfl (Nat.le_of_ble_eq_true rfl)

theorem testCancel (l : Link) (seq : Byte) : Statement (.testCancel l seq) :=
  of_body rfl (Nat.le_of_ble_eq_true rfl)

theorem faultsRead (l : Link) (seq : Byte) : Statement (.faultsRead l seq) :=
  of_body rfl (Nat.le_of_ble_eq_true rfl)

theorem faultsClear (l : Link) (seq : Byte) (upTo : BitVec 16) : Statement (.faultsClear l seq upTo) :=
  of_body rfl (Nat.le_of_ble_eq_true rfl)

theorem sample (pins : Bitmap) (senses : GroupSet) : Statement (.sample pins senses) :=
  of_event rfl

theorem debounceComplete (c : Fin 48) (pins : Bitmap) (senses : GroupSet) : Statement (.debounceComplete c pins senses) :=
  of_event rfl

theorem chatterWindowExpiry (c : Fin 48) (pins : Bitmap) (senses : GroupSet) : Statement (.chatterWindowExpiry c pins senses) :=
  of_event rfl

theorem quietCountdownExpiry (c : Fin 48) (pins : Bitmap) (senses : GroupSet) : Statement (.quietCountdownExpiry c pins senses) :=
  of_event rfl

theorem supplyLost (g : Fin 6) (pins : Bitmap) (senses : GroupSet) : Statement (.supplyLost g pins senses) :=
  of_event rfl

theorem supplyBack (g : Fin 6) (pins : Bitmap) (senses : GroupSet) : Statement (.supplyBack g pins senses) :=
  of_event rfl

theorem ringAppend : Statement .ringAppend :=
  of_event rfl

theorem journalTakeSample : Statement .journalTakeSample :=
  of_event rfl

theorem triggerUnitTakeSample : Statement .triggerUnitTakeSample :=
  of_event rfl

theorem alertCountdownExpiry : Statement .alertCountdownExpiry :=
  of_event rfl

theorem slotTableTakeSample : Statement .slotTableTakeSample :=
  of_event rfl

theorem faultRecord (r : Reporter) : Statement (.faultRecord r) :=
  of_event rfl

theorem tickLimitStop : Statement .tickLimitStop :=
  of_event rfl

theorem journalRunStart : Statement .journalRunStart :=
  of_event rfl

theorem journalRunStop : Statement .journalRunStop :=
  of_event rfl

theorem slotTableTakeStop : Statement .slotTableTakeStop :=
  of_event rfl

theorem triggerUnitTakeStop : Statement .triggerUnitTakeStop :=
  of_event rfl

theorem injectorTakeStop : Statement .injectorTakeStop :=
  of_event rfl

theorem rowDamage (tick : Nat) (levels held : Bitmap) (test : Bool) (syndrome : Nat) : Statement (.rowDamage tick levels held test syndrome) :=
  of_event rfl

theorem lineWord (bits : BitVec 13) : Statement (.lineWord bits) :=
  of_event rfl

theorem lineAnswer : Statement .lineAnswer :=
  of_event rfl

theorem slotTableOffer : Statement .slotTableOffer :=
  of_event rfl

theorem journalTakeTriggerEntry (g : EntryGiver) : Statement (.journalTakeTriggerEntry g) :=
  of_event rfl

theorem testDelayExpiry (pins : Bitmap) (senses : GroupSet) : Statement (.testDelayExpiry pins senses) :=
  of_event rfl

theorem testPhaseExpiry (pins : Bitmap) (senses : GroupSet) : Statement (.testPhaseExpiry pins senses) :=
  of_event rfl

theorem engineTakeSlot : Statement .engineTakeSlot :=
  of_event rfl

theorem extractionBegin (e : Engine) : Statement (.extractionBegin e) :=
  of_event rfl

theorem extractionRow (e : Engine) : Statement (.extractionRow e) :=
  of_event rfl

theorem blockRequest (e : Engine) (pick : Nat) : Statement (.blockRequest e pick) :=
  of_event rfl

theorem blockAnswer (e : Engine) : Statement (.blockAnswer e) :=
  of_event rfl

theorem extractionEnd (e : Engine) : Statement (.extractionEnd e) :=
  of_event rfl

theorem extractionEndTaken (e : Engine) : Statement (.extractionEndTaken e) :=
  of_event rfl

theorem engineDrop (e : Engine) : Statement (.engineDrop e) :=
  of_event rfl

theorem lateEngineAnswer (e : Engine) (a : LateAnswer) : Statement (.lateEngineAnswer e a) :=
  of_event rfl

theorem poolReturn (g : BlockGiver) : Statement (.poolReturn g) :=
  of_event rfl

theorem readoutTakeReady (l : Link) : Statement (.readoutTakeReady l) :=
  of_event rfl

theorem readoutTakeAbort (l : Link) : Statement (.readoutTakeAbort l) :=
  of_event rfl

theorem readoutTakeRelease (l : Link) : Statement (.readoutTakeRelease l) :=
  of_event rfl

theorem slotTableTakeSessionEnd (l : Link) : Statement (.slotTableTakeSessionEnd l) :=
  of_event rfl

theorem readoutTakeSessionEnd (l : Link) : Statement (.readoutTakeSessionEnd l) :=
  of_event rfl

theorem journalTakeSessionEnd (l : Link) : Statement (.journalTakeSessionEnd l) :=
  of_event rfl

theorem frameReceived (l : Link) : Statement (.frameReceived l) :=
  of_event rfl

theorem gapTimeout (l : Link) : Statement (.gapTimeout l) :=
  of_event rfl

theorem characterFramingError (l : Link) (wasHigh : Bool) : Statement (.characterFramingError l wasHigh) :=
  of_event rfl

theorem lineBreak (l : Link) (wasHigh : Bool) : Statement (.lineBreak l wasHigh) :=
  of_event rfl

theorem sessionTimeout (l : Link) : Statement (.sessionTimeout l) :=
  of_event rfl

theorem transmitChoose (l : Link) : Statement (.transmitChoose l) :=
  of_event rfl

theorem journalFrameRequest (l : Link) : Statement (.journalFrameRequest l) :=
  of_event rfl

theorem frameSent (l : Link) : Statement (.frameSent l) :=
  of_event rfl

theorem journalFrameCompletion (l : Link) : Statement (.journalFrameCompletion l) :=
  of_event rfl

theorem linkRateTakeUp (l : Link) : Statement (.linkRateTakeUp l) :=
  of_event rfl

theorem resetCarriedOut : Statement .resetCarriedOut :=
  of_event rfl

theorem hardReset : Statement .hardReset :=
  of_event rfl

theorem characterReceived (l : Link) (c : Byte) : Statement (.characterReceived l c) :=
  of_event rfl

theorem lineStartBit (stillLow : Bool) (wasHigh : Bool) : Statement (.lineStartBit stillLow wasHigh) :=
  of_event rfl

theorem resetPinAsserted : Statement .resetPinAsserted :=
  of_event rfl

end Sys2Proof.Laws.FitsItsFrame
end

