-- ==== Sys2Proof/Laws/Ring.lean ====
section
/-! SUPPORT. The ring's stored check codes, what taking the samples on their way to it does, and its answers to reads. -/

namespace Sys2Proof.Machine

/-- R41: a row is damaged exactly when the code computed again from its fields differs from the stored one. -/
theorem Row.damaged_iff (r : Row) : r.damaged = true ↔ r.check ≠ r.code := by
  have h : r.code ^^^ r.syndrome = r.code ↔ r.syndrome = 0 := by
    constructor
    · intro e
      have := congrArg (r.code ^^^ ·) e
      simpa [← Nat.xor_assoc] using this
    · intro e; simp [e]
  simp [Row.damaged, Row.check, h]

/-- A row made from a sample is intact (R36). -/
@[simp] theorem Row.ofSample_damaged (c : Conditioned) : (Row.ofSample c).damaged = false := rfl

/-- What an upset can do (R41): a row it strikes is damaged whenever it leaves some field not matching, and no struck row becomes intact. -/
theorem Row.strike_damaged (r : Row) (levels held : Bitmap) (test : Bool) (x : Nat) :
    (r.strike levels held test x).damaged = (r.damaged || x != 0) := by
  unfold Row.strike
  by_cases h : r.damaged = true
  · simp [h]
  · by_cases hx : x = 0 <;> simp_all [Row.damaged]

/-- An upset leaves a row's tick (R41; log 9). -/
@[simp] theorem Row.strike_tick (r : Row) (levels held : Bitmap) (test : Bool) (x : Nat) : (r.strike levels held test x).tick = r.tick := by
  unfold Row.strike; split <;> rfl

@[simp] theorem ringAppend_ringIn (s : State) : (ringAppend s).wires.ringIn = s.wires.ringIn.tail := by
  unfold ringAppend
  cases h : s.wires.ringIn with
  | nil => simp [h]
  | cons c rest => rfl

/-- A START leaves the ring empty (R38). -/
@[simp] theorem ringTakeStart_ring (s : State) : (ringTakeStart s).ring = [] := rfl

/-- Nothing on its way: nothing to take. -/
theorem ringCatchUp_of_nil {s : State} (h : s.wires.ringIn = []) : ringCatchUp s = s := by simp [ringCatchUp, h]

/-- One sample on its way: taking it is one append. -/
theorem ringCatchUp_of_one {s : State} {c : Conditioned} (h : s.wires.ringIn = [c]) : ringCatchUp s = ringAppend s := by
  simp [ringCatchUp, h]

/-- The samples on their way are taken one append after the other. -/
theorem ringCatchUp_of_cons {s : State} {c : Conditioned} {rest : List Conditioned} (h : s.wires.ringIn = c :: rest) :
    ringCatchUp s = ringCatchUp (ringAppend s) := by
  simp [ringCatchUp, h]

/-- What the ring can answer a read with now (R40): the answer it fixed before, or one fixed now where it has reached the end tick. -/
theorem ReadRequest.take_eq_some (q : ReadRequest) (rows : List Row) (a : ReadAnswer) :
    q.take rows = some a ↔ q.answer = some a ∨ (q.answer = none ∧ ringReaches rows q.stop = true ∧ ringAnswer rows q.start q.stop = a) := by
  unfold ReadRequest.take
  cases h : q.answer <;> simp

/-- A read that has its answer is given that answer, whatever happens to the ring (R40). -/
theorem ReadRequest.take_of_fixed {q : ReadRequest} {a : ReadAnswer} (h : q.answer = some a) (rows : List Row) : q.take rows = some a :=
  (q.take_eq_some rows a).2 (.inl h)

/-- After that none is on its way to the ring (R37). -/
@[simp] theorem ringCatchUp_ringIn (s : State) : (ringCatchUp s).wires.ringIn = [] := by
  generalize h : s.wires.ringIn = xs
  induction xs generalizing s with
  | nil => rw [ringCatchUp_of_nil h, h]
  | cons c rest ih => rw [ringCatchUp_of_cons h]; exact ih _ (by simp [h])

/-- After a START none is on its way to the ring either (log 15). -/
@[simp] theorem ringTakeStart_ringIn (s : State) : (ringTakeStart s).wires.ringIn = [] := ringCatchUp_ringIn s

end Sys2Proof.Machine
end

