-- ==== Sys2Proof/Laws/Runs.lean ====
section
/-! SUPPORT. Runs of consecutive numbers: what appending, dropping and counting do to them. -/

namespace Sys2Proof.Machine

theorem runsTo_append {next : Nat → Nat} {xs : List Nat} {a b : Nat} (h : runsTo next xs a) (hb : next a = b) :
    runsTo next (xs ++ [a]) b := by
  induction xs with
  | nil => exact ⟨hb, trivial⟩
  | cons x rest ih =>
    refine ⟨?_, ih h.2⟩
    rw [h.1]
    cases rest <;> rfl

theorem runsTo_drop {next : Nat → Nat} {xs : List Nat} {a : Nat} (h : runsTo next xs a) (n : Nat) : runsTo next (xs.drop n) a := by
  induction xs generalizing n with
  | nil => simpa using h
  | cons x rest ih =>
    cases n with
    | zero => exact h
    | succ n => exact ih h.2 n

/-- The first number after `n` of a run is the `n`-th successor of the run's first. -/
theorem runsTo_headD_drop {next : Nat → Nat} {xs : List Nat} {a : Nat} (h : runsTo next xs a) (n : Nat) (hn : n ≤ xs.length) :
    (xs.drop n).headD a = next^[n] (xs.headD a) := by
  induction n generalizing xs with
  | zero => rfl
  | succ n ih =>
    cases xs with
    | nil => simp at hn
    | cons x rest =>
      have hl : n ≤ rest.length := by simpa using hn
      rw [List.drop_succ_cons, ih h.2 hl, Function.iterate_succ_apply, ← h.1]
      rfl

end Sys2Proof.Machine
end

