-- ==== Sys2Proof/Tests/Slice0.lean ====
section
/-! SUPPORT. Our own tests: terms that WellFormed refuses, the manual's worked examples, and for every statement with hypotheses a state and
operands that meet them (each `witness_` theorem names its statement; one conjunct a clause). -/

-- One theorem at a time: many small kernel evaluations at once would each hold a thread.
set_option Elab.async false

namespace Sys2Proof.Tests

open Sys2Proof Sys2Proof.Machine

/-! ## Small states -/

/-- A link with session 1 OPEN. -/
def openLink : LinkState := { LinkState.reset with session := some 1, lastSession := 1 }

/-- After reset, with session 1 OPEN on both links. -/
def base : State := { State.reset with links := { a := openLink, b := openLink } }

/-- Recording RUNNING since tick 1, with this tick made last. -/
def runAt (tick : Nat) : State :=
  { base with
    time := { Timebase.reset with running := true, tick := tick, runStart := some 1 }
    cond := { base.cond with firstDue := false, lastTick := some tick }
    table := { SlotTable.reset with lastTick := some tick } }

/-- A capture with R 500, P and Q 3, in this state. -/
def captureIn (phase : Phase) : Capture :=
  { phase := phase, serial := 17, source := .linkA, label := 0, ref := 500, pre := 3, post := 3, effStart := 497, effEnd := 503
    flags := Flags.empty, records := [], blocks := [], initial := none, fetch := none }

/-- The state with this capture in slot 0. -/
def holding (c : Capture) (s : State) : State :=
  { s with table := { s.table with slots := s.table.slots.set 0 (some c), acceptance := [0] } }

/-- The state after a command; the state itself where the command does not go on. -/
def after (i : Instr) (s : State) : State :=
  match exec i s with
  | .next t => t
  | _ => s

/-- A row of the ring. -/
def rowAt (tick : Nat) : Row := { tick := tick, levels := 0, held := 0, test := false, syndrome := 0 }

/-- A conditioned sample with these changes. -/
def sampleOf (tick : Nat) (changes : List Change) : Conditioned :=
  { tick := tick, levels := 0, held := 0, test := false, events := [], changes := changes }

/-- A RISE of channel 12. -/
def riseOf (alert auto : Bool) : Change := { channel := 12, kind := .rise, test := false, journal := true, alert := alert, auto := auto }

/-- The state with one field of the hand-offs changed. -/
def wired (f : Wires → Wires) (s : State) : State := { s with wires := f s.wires }

/-! ## WellFormed refuses -/

theorem test_a_set_value_of_239_bytes_is_refused : (Instr.set .A 1 0x0100 (List.replicate 239 0)).valueFits = false := by decide +kernel

theorem test_a_row_of_tick_0_is_refused : (Instr.rowDamage 0 0 0 false 1).rowTickFits = false := by decide

theorem test_an_upset_that_leaves_a_match_is_refused : (Instr.rowDamage 1 0 0 false 0).upsetFits = false := by decide

theorem test_a_129th_block_is_refused : (Instr.blockRequest .e0 128).pickFits = false := by decide

theorem test_ill_formed_terms_are_refused :
    (Instr.set .A 1 0x0100 (List.replicate 239 0)).wellFormed = false ∧ (Instr.rowDamage 1099511627776 0 0 false 1).wellFormed = false
      ∧ (Instr.rowDamage 1 0 0 false 0).wellFormed = false ∧ (Instr.blockRequest .e1 128).wellFormed = false := by decide +kernel

theorem test_well_formed_terms_are_taken :
    (Instr.set .A 1 0x0100 (List.replicate 238 0)).wellFormed = true ∧ (Instr.rowDamage 1099511627775 0 0 false 1).wellFormed = true
      ∧ (Instr.blockRequest .e1 127).wellFormed = true := by decide +kernel

/-! ## The manual's examples -/

/-- Spec/11, "Example: A FETCH and Its Reply": the command frame but its check. -/
theorem test_fetch_frame : (frameBytes 0x2A 0x40 [0x00, 0x01, 0x00]).take 7 = [0xC3, 3, 0x2A, 0x40, 0x00, 0x01, 0x00] := by decide +kernel

/-- The same example: the body of the REPLY. -/
theorem test_fetch_reply_body :
    (FrameBody.reply { seq := 0x2A, kind := 0x40, body := .fetchQueued 0 17 (.claimed .A) 130 3 0, after := .nothing }).bytes
      = [0x40, 0x02, 0x00, 0x11, 0x00, 0x05, 0x82, 0x00, 0x03, 0x00] := by decide +kernel

/-- The check of R178, by hand on one zero byte: FFFF, then eight shifts with 1021. -/
theorem test_crc_of_a_zero_byte : crcOf [0x00] = 0xE1F0#16 := by decide

/-- Spec/02, "The Ring Across Two Runs": the START carries tick 1; the first sample gets it, and its row is the ring's one row. -/
theorem test_first_run : (after .ringAppend (after (.sample 0 0x3F) (after (.start .A 1) base))).ring.map (·.tick) = [1] := by decide +kernel

/-- The same example: the second START empties the ring and begins at tick 5001. -/
theorem test_second_run :
    let s := after (.start .A 1) { base with time := { Timebase.reset with tick := 5000, runStart := some 1, stopReason := .stop }, ring := [rowAt 5000] }
    s.time.runStart = some 5001 ∧ s.ring = [] := by decide +kernel

/-- R40: a read that waits for a row still on its way is fixed before a START empties the ring, with the old run's rows. -/
theorem test_a_start_leaves_a_read_fixed :
    let q : ReadRequest := { slot := 0, serial := 17, start := 9, stop := 11, answer := none }
    let s := wired (fun w => { w with ringIn := [sampleOf 11 []], reads := { w.reads with x0 := [q] } })
      { base with time := { Timebase.reset with tick := 11, runStart := some 10 }, ring := [rowAt 10] }
    let t := after (.start .A 1) s
    t.ring = [] ∧ t.wires.reads.x0.map (fun r => r.answer.map fun a => (a.oldest, a.rows.map (·.tick))) = [some (10, [10, 11])] := by decide +kernel

/-- Spec/05, "One Window Through an Engine", row 500: channel 9 LIVE, then FALL. -/
theorem test_row_500 :
    rowRecords { levels := 0x204, held := 0x200 } { levels := 0x004, held := 0 } 0
      = [{ channel := 9, kind := .live, offset := 0 }, { channel := 9, kind := .fall, offset := 0 }] := by decide +kernel

/-- Spec/08, "A Test Run With a Capture": the test state before and after samples 5003 to 5007. -/
theorem test_pulse_pattern :
    let run : TestRun := { channels := 0x40000000, width := 2, gap := 1, count := 2, label := 7, trigger := some (3, 90), first := 5003, last := 5007 }
    (Injector.delay run 2).advance = .delay run 1 ∧ (Injector.delay run 1).advance = .injecting run 1 true 2 ∧
      (Injector.injecting run 1 true 1).advance = .injecting run 1 false 1 ∧ (Injector.injecting run 1 false 1).advance = .injecting run 2 true 2 ∧
      (Injector.injecting run 2 true 1).advance = .idle := by decide

/-- The same example: the TEST answers with ticks 5003 and 5007, and takes slot 3 with R 5003, S 4803, E 5203. -/
theorem test_test_command :
    let s : State := { runAt 5000 with table := { (runAt 5000).table with nextSerial := 90 } }
    ((after (.test .A 1 0x40000000 2 2 1 2 3 3 7) s).links.a.replies.map (·.body)) = [.test 5003 5007 (some (3, 90, 5003, 4803, 5203))] := by
  decide +kernel

/-- Spec/03, "An Event Seen Twice", tick 1000: slot 6 is ARMED with serial 41, R 1000, S 800 and E 1200; the holdoff is 50, the alert countdown 10. -/
theorem test_event_seen_twice :
    let s := wired (fun w => { w with trigIn := [.sample (sampleOf 1000 [riseOf true true])] })
      { runAt 1000 with table := { (runAt 999).table with nextSerial := 41 } }
    let t := after .triggerUnitTakeSample s
    (t.slot 6).map (fun c => (c.phase, c.serial, c.ref, c.effStart, c.effEnd)) = some (.armed, 41, 1000, 800, 1200) ∧ t.trig.holdoff = 50
      ∧ t.trig.alertCountdown = 10 ∧ t.trig.alert = true := by decide +kernel

/-- R181: the 13 bytes of a TRIGGER, least significant byte first, and a body one byte short. -/
theorem test_trigger_body :
    readFrame 0x30 [2, 0, 0xE8, 3, 0, 0, 0, 0xC8, 0, 0xFF, 0xFF, 0x2A, 1] = .command (.trigger 2 0 1000 200 0xFFFF 0x012A) ∧
      readFrame 0x30 [2, 0, 0xE8, 3, 0, 0, 0, 0xC8, 0, 0xFF, 0xFF, 0x2A] = .wrongLength := by decide +kernel

/-! ## Witnesses: the machine and its laws -/

theorem witness_EmptyQueueIsOneMillisecond :
    (base.pending = [] ∧ base.resetPin = false ∧ (base.links.get .A).session.isSome = true) ∧
    (State.reset.pending = [] ∧ (State.reset.links.get .A).session.isSome = false) ∧
    (after .resetPinAsserted base).pending = [] ∧ (after .resetPinAsserted base).resetPin = true := by decide +kernel

theorem witness_ResetPinHoldsThePart :
    (after .resetPinAsserted base).resetPin = true ∧ Instr.ringAppend ≠ .hardReset ∧ Instr.ringAppend ≠ .resetPinAsserted := by decide +kernel

theorem items_lawful : ItemsLaw Items.default where
  period := by decide
  lag := by decide
  holdoff := by decide
  width := by decide
  loss := by decide
  back := by decide
  timeout := by decide
  windows := by decide +kernel
  profiles := fun p =>
    { debounce := by revert p; decide +kernel
      limit := by revert p; decide +kernel
      window := by revert p; decide +kernel
      quiet := by revert p; decide +kernel }

theorem witness_ItemsChannelsAndInjectorStayInRange :
    let run : TestRun := { channels := 1, width := 1, gap := 1, count := 1, label := 0, trigger := none, first := 12, last := 12 }
    let s : State := { runAt 10 with injector := .delay run 1, pending := [.sample 0 0x3F] }
    ItemsLaw s.items ∧ CondLaw s.cond ∧ InjectorLaw s.injector ∧ ∃ t, step s = .next t := by
  have same : ∀ i : Fin 48, (runAt 10).cond.channels[i] = Channel.reset ChannelRecord.default (Profile.default 0) := by decide +kernel
  have cond : CondLaw (runAt 10).cond :=
    { channels := fun i => by
        rw [same i]
        exact ⟨⟨by decide, by decide, by decide, by decide⟩, by decide, nofun, rfl, nofun, nofun⟩
      monitors := fun g => ⟨by revert g; decide +kernel, by revert g; decide +kernel⟩
      first := by decide +kernel }
  exact ⟨items_lawful, cond, ⟨⟨by decide, by decide, by decide, by decide⟩, by decide⟩, _, rfl⟩

theorem witness_RingLawIsKept :
    let s : State := { runAt 2 with ring := [rowAt 1], wires := { Wires.empty with ringIn := [sampleOf 2 []] }, pending := [.ringAppend] }
    ItemsLaw s.items ∧ TimeLaw s.time ∧ RingLaw s.time s.ring s.wires.ringIn ∧ ∃ t, step s = .next t := by
  refine ⟨items_lawful, ⟨by decide, ?_, by decide, by decide, by decide⟩, ⟨by decide, by decide, ?_, ?_, ?_, by decide⟩, _, rfl⟩
  · intro r h
    cases h
    decide
  · simp [runsTo, sampleTicks, rowAt, sampleOf, runAt]
  · intro r h
    cases h
    decide
  · intro _ r h
    cases h
    decide

theorem witness_AlertFollowsItsCountdown :
    let s : State :=
      { runAt 10 with
        trig := { TriggerUnit.reset with alert := true, alertCountdown := 1 }
        wires := { Wires.empty with trigIn := [.sample (sampleOf 10 [])] }
        pending := [.triggerUnitTakeSample] }
    ItemsLaw s.items ∧ (s.resetPin = false → AlertLaw s.trig) ∧ ∃ t, step s = .next t :=
  ⟨items_lawful, fun _ => ⟨by decide, by decide, by decide⟩, _, rfl⟩

/-- One capture of serial 17 in slot 0, not QUEUED, with an empty extraction queue, meets the law of the slot table. -/
theorem slots_lawful (c : Capture) (serial : c.serial = 17) (phase : c.phase ≠ .queued) : SlotLaw (holding c (runAt 10)).table := by
  have only : ∀ (i : Fin 8) d, (holding c (runAt 10)).table.slots[i] = some d → i = 0 ∧ d = c := by
    intro i d
    revert i
    simp [Fin.forall_fin_succ, holding, runAt, SlotTable.reset, eq_comm]
  refine ⟨?_, by simp [holding], ?_, by simp [holding, runAt, SlotTable.reset], ?_, ?_, ⟨Nat.le_refl 1, Nat.le_of_ble_eq_true rfl⟩⟩
  · simp [Fin.forall_fin_succ, holding, runAt, SlotTable.reset]
  · intro i
    refine ⟨nofun, ?_⟩
    rintro ⟨d, h, q⟩
    exact absurd (by rw [← (only i d h).2]; exact q) phase
  · intro i d h
    rw [(only i d h).2, serial]
    decide
  · intro i j d e h k _
    rw [(only i d h).1, (only j e k).1]

theorem witness_SlotTableLawIsKept :
    let s : State := { holding (captureIn .armed) (runAt 10) with pending := [.stop .A 1] }
    SlotLaw s.table ∧ ∃ t, step s = .next t :=
  ⟨slots_lawful _ rfl nofun, _, rfl⟩

theorem witness_PoolLawIsKept :
    let c : Capture := { captureIn (.claimed .A) with records := [{ channel := 2, kind := .rise, offset := -1 }], blocks := [0] }
    let s : State := { holding c (runAt 10) with pool := (List.range 128).drop 1, pending := [.release .A 1 0 17] }
    SlotLaw s.table ∧ PoolLaw s ∧ ∃ t, step s = .next t := by
  refine ⟨slots_lawful _ rfl nofun, ⟨by decide +kernel, ?_, trivial, trivial⟩, _, rfl⟩
  intro i c
  revert i
  simp [Fin.forall_fin_succ, State.slot, holding, runAt, SlotTable.reset]
  rintro rfl
  exact ⟨nofun, fun _ => by decide⟩

theorem witness_DeliveryPlacesAreNeverExceeded :
    let s : State :=
      { base with readouts := { a := { Readout.reset with queue := List.replicate 8 (.cutEnding 0 1) }, b := Readout.reset }
                  pending := [.fetch .A 1 0 0 0] }
    (∀ l, ReadoutLaw (s.readouts.get l)) ∧ ∃ t, step s = .next t := by
  refine ⟨fun l => ?_, _, rfl⟩
  cases l <;> simp [ReadoutLaw, PerLink.get, Readout.reset]

theorem link_lawful : LinkLaw openLink :=
  ⟨by decide, nofun, nofun, nofun, nofun, nofun, nofun, by intro n h; cases h; decide, by decide, nofun, by decide⟩

theorem witness_ClaimsNeedASession :
    let s : State := { holding (captureIn (.claimed .A)) (runAt 10) with pending := [.lineBreak .A true] }
    (∀ l, LinkLaw (s.links.get l)) ∧ ClaimLaw s ∧ ∃ t, step s = .next t := by
  refine ⟨fun l => ?_, ⟨fun i c l h p => ?_, fun i c f h => ?_⟩, _, rfl⟩
  · cases l <;> exact link_lawful
  · cases l <;> exact .inl nofun
  · revert i
    simp [Fin.forall_fin_succ, State.slot, holding, runAt, SlotTable.reset]
    rintro rfl
    exact nofun

theorem witness_JournalAndFaultLogLawsAreKept :
    let s : State :=
      { base with
        journal :=
          { Journal.reset with
            entries := [{ seq := 1, kind := .runStart, tick := 1, test := false }]
            nextSeq := 2
            subs := { a := some { acked := 0, cursor := 2, inFlight := none }, b := none } }
        faults := { records := [{ seq := 65535, report := { kind := .supplyLost 0, tick := 1 } }], lost := 255, nextSeq := 1 }
        pending := [.journalAck .A 1 1] }
    JournalLaw s.journal ∧ FaultLaw s.faults ∧ ∃ t, step s = .next t := by
  refine ⟨⟨by decide, by decide, ⟨by decide, trivial⟩, by decide, by decide, by decide, nofun, ?_⟩, ⟨by decide, ⟨by decide, trivial⟩, by decide, by decide,
    by decide⟩, _, rfl⟩
  intro l x h
  cases l
  · cases h
    exact ⟨by decide, by decide, by decide, by decide, by decide, nofun⟩
  · exact absurd h nofun

theorem witness_LinkLawIsKept :
    let s : State := { base with pending := [.ping .A 1] }
    (∀ l, LinkLaw (s.links.get l)) ∧ ∃ t, step s = .next t :=
  ⟨fun l => by cases l <;> exact link_lawful, _, rfl⟩

theorem witness_FramesAreReceivedAsSent : ([] : List Byte).length ≤ 240 ∧ (List.replicate 240 (0 : Byte)).length ≤ 240 ∧ openLink.receiver = .hunt := by
  decide +kernel

theorem witness_ItemValuesReadBack :
    (Items.default.write .tickPeriod [0x10, 0x27]).isSome = true ∧ [(0x10 : Byte), 0x27].length = ItemId.tickPeriod.size
      ∧ Items.default.write .tickPeriod [0x11, 0x27] = none ∧ [(0x11 : Byte), 0x27].length = ItemId.tickPeriod.size := by decide +kernel

/-! ## Witnesses: commands of links, items and device control -/

/-- A link with these REPLYs queued, the last of them cached. -/
def repliedLink (n : Nat) : LinkState :=
  let r : Reply := { seq := 9, kind := 0x03, body := .session 1, after := .nothing }
  { openLink with replies := List.replicate n r, cache := some r }

/-- The state with one link's state replaced. -/
def linked (k : LinkState) (s : State) : State := { s with links := { s.links with a := k } }

theorem witness_FramesTheHandlerDoesNotExecute :
    hostCommand (.ping .A 5) = some (.A, 5, .ping) ∧
    (handlerFree (linked (repliedLink 4) base) .A = true ∧ 4 ≤ (repliedLink 4).replies.length) ∧
    (handlerFree (linked (repliedLink 3) base) .A = true ∧ (repliedLink 3).replies.length < 4 ∧ (repliedLink 3).cache.map (·.seq) ≠ some 5) ∧
    ((repliedLink 3).cache.map (·.seq) = some 9 ∧ hostCommand (.ping .A 9) = some (.A, 9, .ping)) ∧
    (handlerFree { base with device := .pending .B false .reply } .A = true ∧ ({ base with device := .pending .B false .reply } : State).resetPending = true) ∧
    (base.resetPending = false ∧ handlerFree (linked { openLink with byeMark := true } base) .A = true) ∧
    (handlerFree State.reset .A = true ∧ (State.reset.links.get .A).session = none ∧ Command.ping ≠ .hello ∧ 0x04#8 ≠ 0x01#8) := by decide +kernel

theorem witness_HelloOpensASession :
    (handlerTakes State.reset .A 5 = true ∧ (State.reset.links.get .A).session = none) ∧
    (handlerReady base .A 5 = true ∧ (base.links.get .A).session = some 1) := by decide +kernel

theorem witness_PingAndByeAnswerTheSession : handlerReady base .B 5 = true ∧ (base.links.get .B).session = some 1 := by decide +kernel

theorem witness_GetReportsAndChangesNothing :
    (handlerReady base .A 5 = true ∧ base.journalEndDue .A = false) ∧ (∀ x, (0x800C#16).toNat ≠ identifierOf x) ∧
    ((0x0001#16).toNat = identifierOf .tickPeriod ∧ (0x8008#16).toNat = identifierOf (.linkCounts .A) ∧ (0x800A#16).toNat = identifierOf .journalState) := by
  refine ⟨by decide +kernel, fun x => ?_, by decide +kernel⟩
  cases x <;> simp [identifierOf] <;> first | omega | (rename_i l; cases l <;> decide)

theorem witness_SetStoresOrRefuses :
    handlerReady base .A 5 = true ∧ ItemId.ofId 0xFFFF = none ∧ ItemId.ofId 0x8002 = some .runState ∧ ItemId.runState.writable = false ∧
    ItemId.ofId 0x0001 = some .tickPeriod ∧ ItemId.tickPeriod.writable = true ∧ [(0 : Byte)].length ≠ ItemId.tickPeriod.size ∧
    base.items.write .tickPeriod [99, 0] = none ∧ (base.items.write .tickPeriod [100, 0]).isSome = true ∧ base.time.running = false ∧
    ((runAt 1).time.running = true ∧ handlerReady (runAt 1) .A 5 = true) ∧
    (ItemId.ofId 0x000C = some (.linkRate .B) ∧ (base.items.write (.linkRate .B) [0, 0xC2, 1, 0]).isSome = true
      ∧ (base.links.get .B).session.isSome = true) := by
  decide +kernel

/-- A link whose session has counted this many ms since its last good frame. -/
def quietLink (ms : Nat) : LinkState := { openLink with sinceGood := ms }

theorem witness_SetOfLinkRateAndSessionTimeout :
    let s : State := { base with links := { a := openLink, b := LinkState.reset } }
    let busy : State := { base with links := { a := openLink, b := LinkState.reset.startFrame (.sessionEnd .timeout 1) } }
    let t (ms : Nat) : State := { base with links := { a := openLink, b := quietLink ms } }
    (handlerReady s .A 5 = true ∧ ItemId.ofId 0x000B = some (.linkRate .A) ∧ (s.items.write (.linkRate .A) [0, 0xC2, 1, 0]).isSome = true) ∧
    (ItemId.ofId 0x000C = some (.linkRate .B) ∧ (s.items.write (.linkRate .B) [0, 0xC2, 1, 0]).isSome = true ∧ (s.links.get .B).session = none) ∧
    (ItemId.ofId 0x000A = some .sessionTimeout ∧ (base.items.write .sessionTimeout [100, 0]).map (·.sessionTimeout) = some 100) ∧
    ((s.links.get .B).onLine = false ∧ (busy.links.get .B).onLine = true ∧ (busy.links.get .B).session = none ∧ handlerReady busy .A 5 = true) ∧
    (handlerReady (t 99) .A 5 = true ∧ ((t 99).links.get (otherLink .A)).sinceGood < 100) ∧
    (handlerReady (t 100) .A 5 = true ∧ ((t 100).links.get (otherLink .A)).session ≠ none ∧ 100 ≤ ((t 100).links.get (otherLink .A)).sinceGood) := by
  decide +kernel

/-- R157: the other link's rate is taken at once while that link's transmitter has asked for a frame and sends nothing. -/
theorem test_a_rate_is_taken_while_asking :
    let t := after (.set .A 5 0x000C [0, 0xC2, 1, 0]) { base with links := { a := openLink, b := { LinkState.reset with tx := .asking } } }
    t.links.b.rate = .r115200 ∧ t.links.b.rateDue = none := by decide +kernel

/-- R162: a SET REPLY that is on the line at the carrying out brings no rate after it; the link stays at its stored rate. -/
theorem test_the_stored_rate_stands_after_a_reset :
    let reply : Reply := { seq := 5, kind := 0x11, body := .refused .badValue, after := .takeRate .r115200 }
    let s : State := { linked (openLink.startFrame (.reply reply)) base with device := .pending .B true .due }
    (after (.frameSent .A) (after .resetCarriedOut s)).links.a.rate = s.items.rateA ∧ s.items.rateA ≠ .r115200 := by decide +kernel

theorem witness_DeviceResetIsPendingThenCarriedOut :
    (handlerReady base .A 5 = true ∧ (1 : Byte) = (if true then 1#8 else 0#8) ∧ (2 : Byte) ≠ 0#8 ∧ (2 : Byte) ≠ 1#8) ∧
    (({ base with device := .pending .A true .due } : State).device = .pending .A true .due ∧
      ({ base with device := .pending .A true .due } : State).resetPin = false) ∧
    (base.resetPin = false ∧ ∀ l keep, base.device ≠ .pending l keep .due) :=
  ⟨by decide +kernel, by decide +kernel, by decide +kernel, fun _ _ => nofun⟩

/-- Engine 0 in this state. -/
def engined (x : EngineState) (s : State) : State := { s with engines := { s.engines with x0 := x } }

/-- The reading of slot 0, and its request at the ring. -/
def readingOf : Reading := { slot := 0, serial := 17, ref := 500, start := 497, stop := 503, flags := Flags.empty }

/-- Engine 0 at work on slot 0, with these rows left and this row waiting for blocks. -/
def workingOn (rows : List ReadRow) (placing : Option Placing) : Working :=
  { slot := 0, serial := 17, ref := 500, effStart := 497, effEnd := 503, flags := Flags.empty, initial := some { levels := 0, held := 0 }, records := []
    blocks := [], baseline := some { levels := 0, held := 0 }, rows := rows, placing := placing }

theorem witness_SnapshotAndSlotStatusReport :
    handlerReady base .A 5 = true ∧ base.cond.lastTick = none ∧ handlerReady (runAt 10) .A 5 = true ∧ (runAt 10).cond.lastTick = some 10 ∧
    base.wires.tableEnds.get .A = 0 ∧ (7#8).toNat = (7 : Fin 8).val ∧ 8 ≤ (8#8).toNat ∧ 8#8 ≠ 0xFF#8 ∧ base.slot 0 = none ∧
    (holding (captureIn .ready) base).slot 0 = some (captureIn .ready) ∧ (captureIn .ready).phase ≠ .extracting ∧
    (holding (captureIn .extracting) base).slot 0 = some (captureIn .extracting) ∧ (captureIn .extracting).phase = .extracting ∧
    (∀ e, ((engined (.reading readingOf) base).engines.get e).worksOn = some (0, 17) →
      ∃ r, (engined (.reading readingOf) base).engines.get e = .reading r) ∧
    ((engined (.working (workingOn [] none)) base).engines.get .e0 = .working (workingOn [] none) ∧ (workingOn [] none).slot = 0
      ∧ (workingOn [] none).serial = (captureIn .extracting).serial) := by
  and_intros <;> try decide +kernel
  intro e h
  cases e
  · exact ⟨readingOf, rfl⟩
  · exact absurd h nofun

/-- A log with two records, of seqs 65535 and 1. -/
def twoFaults : FaultLog :=
  { records := [{ seq := 65535, report := { kind := .supplyLost 0, tick := 1 } }, { seq := 1, report := { kind := .supplyLost 1, tick := 2 } }]
    lost := 3, nextSeq := 2 }

theorem witness_FaultsAreReadAndCleared :
    let s : State := { base with faults := twoFaults }
    handlerReady s .A 5 = true ∧ base.faults.records = [] ∧ s.faults.records.map (·.seq) = [65535, 1] ∧ 0xFFFF#16 ≠ 0#16 ∧
    ((0xFFFF#16).toNat + 65535 - 65535) % 65535 + 1 ≤ s.faults.records.length ∧ ((1#16).toNat + 65535 - 65535) % 65535 + 1 ≤ s.faults.records.length ∧
    s.faults.records.length < ((2#16).toNat + 65535 - 65535) % 65535 + 1 ∧ s.faults.records.length < ((65534#16).toNat + 65535 - 65535) % 65535 + 1 := by
  decide +kernel

/-- Across the end of the seqs: clearing up to seq 1 removes both records, and the lost count with them. -/
theorem test_faults_cleared_across_65535 :
    (after (.faultsClear .A 1 1) { base with faults := twoFaults }).faults = { records := [], lost := 0, nextSeq := 2 } := by decide +kernel

theorem witness_FaultsAreRecorded :
    let x : FaultReport := { kind := .supplyLost 0, tick := 1 }
    twoFaults.records.length < 4 ∧ 4 ≤ (twoFaults.record x |>.record x).records.length ∧
    (wired (fun w => { w with sampleFaults := [[x]] }) base).wires.sampleFaults = [x] :: [] ∧
    (wired (fun w => { w with engineFaults := { w.engineFaults with x1 := [x] } }) base).wires.engineFaults.get .e1 = x :: [] ∧
    (wired (fun w => { w with triggerFaults := [x] }) base).wires.triggerFaults = x :: [] ∧
    base.resetPin = false ∧ base.wires.sampleFaults = [] ∧ base.wires.engineFaults.get .e0 = [] ∧ base.wires.triggerFaults = [] := by decide +kernel

/-! ## Witnesses: runs, triggers and slots -/

theorem only_slot_0 {c d : Capture} {s : State} {i : Fin 8} (h : s.table.slots = Vector.replicate 8 none) (e : (holding c s).slot i = some d) : d = c := by
  revert i
  simp [Fin.forall_fin_succ, State.slot, holding, h, eq_comm]

theorem witness_StartBeginsARun :
    (handlerReady (runAt 10) .A 5 = true ∧ (runAt 10).time.running = true) ∧
    (handlerReady { base with time := { Timebase.reset with limitReached := true } } .A 5 = true) ∧
    (handlerReady (holding (captureIn .queued) base) .A 5 = true ∧ base.time.running = false ∧ base.time.limitReached = false ∧
      ∃ i c, (holding (captureIn .queued) base).slot i = some c ∧ (c.phase = .armed ∨ c.phase = .queued ∨ c.phase = .extracting)) ∧
    (handlerReady (holding (captureIn .ready) base) .A 5 = true ∧
      ∀ i c, (holding (captureIn .ready) base).slot i = some c → c.phase = .ready ∨ ∃ m, c.phase = .claimed m) ∧
    (base.wires.ringIn = [] ∧ (wired (fun w => { w with ringIn := [sampleOf 11 []] }) base).wires.ringIn ≠ []) := by
  and_intros <;> try decide +kernel
  exact fun _ _ h => .inl (by rw [only_slot_0 rfl h]; rfl)

theorem witness_StopEndsARun :
    let last := runAt 1099511627775
    (handlerReady base .A 5 = true ∧ base.time.running = false) ∧
    (handlerReady (runAt 10) .A 5 = true ∧ (runAt 10).time.running = true ∧ (runAt 10).time.runStart = some 1) ∧
    (last.resetPin = false ∧ last.time.running = true ∧ last.time.tick = 1099511627775) ∧
    ((runAt 1099511627774).time.tick ≠ 1099511627775 ∧ (runAt 1099511627774).resetPin = false) := by decide +kernel

/-- A STOP before the first sample of a run answers with no tick. -/
theorem test_stop_without_a_sample :
    (after (.stop .A 2) (after (.start .A 1) base)).links.a.replies.map (·.body) = [.start 1, .stop none] := by decide +kernel

theorem witness_StopsReachTheInjectorAndTheTriggerUnit :
    (handlerReady base .A 5 = true ∧ base.resetPin = false ∧ base.wires.injectorStop = false) ∧
    (wired (fun w => { w with injectorStop := true }) base).wires.injectorStop = true ∧
    (wired (fun w => { w with trigIn := [.stop .limit 9] }) base).wires.trigIn = .stop .limit 9 :: [] ∧
    ∀ reason tick rest, base.wires.trigIn ≠ .stop reason tick :: rest :=
  ⟨by decide +kernel, by decide +kernel, by decide +kernel, fun _ _ _ => nofun⟩

theorem witness_TriggerTakesASlot :
    let s := runAt 1000
    handlerReady s .A 5 = true ∧ s.time.running = true ∧ (s.asksFor 0 0 ∧ s.asksFor 0xFF 0) ∧ s.slot 0 = none ∧
    (s.formsRef 0 1000 1000 ∧ s.formsRef 1 0 1000 ∧ s.formsRef 2 0 996) ∧ sideOr 2047 200 ≤ 2047 ∧ sideOr 0xFFFF 200 = 200 ∧
    (1000 : Int) ≤ s.tableCurrent + 65535 ∧ s.tableFloor ≤ (1000 : Int) + (200 : Nat) ∧ SlotLaw (holding (captureIn .armed) (runAt 10)).table ∧
    (s.picks (.numbered 7) 7 ∧ s.picks .any 0 ∧ ({ s with items := { s.items with autoSlots := 0xC0 } } : State).picks .auto 6 ∧ s.slot 7 = none) ∧
    (s.refersTo (.absolute 1000) 1000 ∧ s.refersTo .now 1000 ∧ s.refersTo .lagged 996 ∧ s.refersTo (.ahead 9) 1009) := by
  refine ⟨?_, ?_, ⟨.inl rfl, .inr ⟨rfl, ?_⟩⟩, ?_, ⟨.inl ⟨rfl, rfl⟩, .inr (.inl ⟨rfl, ?_⟩), .inr (.inr ⟨rfl, ?_⟩)⟩, ?_, ?_, ?_, ?_,
    slots_lawful _ rfl nofun, ?_⟩
  all_goals first
    | decide +kernel
    | (simp only [State.picks, State.refersTo]; decide +kernel)

/-- Serials: the capture taken after one of serial 65535 has serial 1. -/
theorem test_serial_wraps :
    let s : State := { runAt 1000 with table := { (runAt 1000).table with nextSerial := 65535 } }
    let t := after (.trigger .A 2 1 1 0 0xFFFF 0xFFFF 0) (after (.trigger .A 1 0 1 0 0xFFFF 0xFFFF 0) s)
    ((t.slot 0).map (·.serial), (t.slot 1).map (·.serial)) = (some 65535, some 1) := by decide +kernel

theorem witness_OffersAreRefusedInOrder :
    let s := runAt 100000
    let full : State := { s with items := { s.items with autoSlots := 0xFF } }
    let bare : State := { s with items := { s.items with autoSlots := 0 } }
    (handlerReady base .A 5 = true ∧ base.time.running = false) ∧ (handlerReady s .A 5 = true ∧ s.time.running = true) ∧
    (8 ≤ (8 : Byte).toNat ∧ (8 : Byte) ≠ 0xFF#8) ∧
    (handlerReady full .A 5 = true ∧ full.time.running = true ∧ ∀ j, full.slot j = none → full.items.autoSlots.getLsbD j = true) ∧
    (s.asksFor 0 0 ∧ (holding (captureIn .ready) s).slot 0 ≠ none ∧ s.slot 0 = none ∧ 3 ≤ (3 : Byte).toNat) ∧
    (s.formsRef 0 165536 165536 ∧ s.tableCurrent + 65535 < (165536 : Int)) ∧
    (s.formsRef 0 95000 95000 ∧ (95000 : Int) + (200 : Nat) < s.tableFloor) ∧
    (s.formsRef 0 100000 100000 ∧ s.tableFloor ≤ (100000 : Int) + (200 : Nat) ∧ 2047 < sideOr 2048 200) ∧
    (SlotRequest.numbered 8 = .numbered 8 ∧ 8 ≤ 8 ∧ bare.time.running = true ∧ ∀ j, bare.slot j = none → bare.items.autoSlots.getLsbD j = false) ∧
    (s.picks (.numbered 0) 0 ∧ s.refersTo (.absolute 165536) 165536 ∧ s.refersTo (.absolute 95000) 95000 ∧ s.refersTo (.absolute 100000) 100000
      ∧ 2047 < (some 2048).getD 200) := by
  refine ⟨?_, ?_, ?_, ?_, ⟨.inl rfl, ?_⟩, ⟨.inl ⟨rfl, rfl⟩, ?_⟩, ⟨.inl ⟨rfl, rfl⟩, ?_⟩, ⟨.inl ⟨rfl, rfl⟩, ?_⟩, ?_, ?_⟩
  all_goals first
    | decide +kernel
    | (simp only [State.picks, State.refersTo]; decide +kernel)

theorem witness_AbortEmptiesTheSlot :
    let claimed := holding (captureIn (.claimed .B)) base
    (handlerReady base .A 5 = true ∧ base.wires.tableEnds.get .A = 0 ∧ 1 < (2 : Byte).toNat ∧ 7 < (8 : Byte).toNat) ∧
    ((7 : Byte).toNat = (7 : Fin 8).val ∧ (1 : Byte).toNat ≤ 1 ∧ base.slot 7 = none) ∧
    (handlerReady claimed .A 5 = true ∧ claimed.slot 0 = some (captureIn (.claimed .B)) ∧ (captureIn (.claimed .B)).phase = .claimed (otherLink .A)) ∧
    ((holding (captureIn .armed) base).slot 0 = some (captureIn .armed) ∧ (captureIn .armed).phase ≠ .claimed (otherLink .A)) := by decide +kernel

theorem witness_ReleaseEmptiesTheSlot :
    let claimed := holding (captureIn (.claimed .A)) base
    (handlerReady base .A 5 = true ∧ base.wires.tableEnds.get .A = 0 ∧ 7 < (8 : Byte).toNat) ∧
    ((7 : Byte).toNat = (7 : Fin 8).val ∧ (17 : BitVec 16) ≠ 0#16 ∧ base.slot 7 = none) ∧
    (handlerReady claimed .A 5 = true ∧ claimed.slot 0 = some (captureIn (.claimed .A)) ∧ (captureIn (.claimed .A)).serial ≠ (18 : BitVec 16).toNat) ∧
    ((captureIn (.claimed .A)).serial = (17 : BitVec 16).toNat ∧ (captureIn (.claimed .A)).phase = .claimed .A) ∧
    ((holding (captureIn .ready) base).slot 0 = some (captureIn .ready) ∧ (captureIn .ready).phase ≠ .claimed .A) := by decide +kernel

/-- The state with link A's readout unit replaced. -/
def reading (q : Readout) (s : State) : State := { s with readouts := { s.readouts with a := q } }

theorem witness_FetchWaitsOrQueues :
    let full : Readout := { Readout.reset with queue := List.replicate 7 (.cutEnding 1 1), reserved := [(1, 1)] }
    let named : Readout := { Readout.reset with queue := [.delivery 0 17 0] }
    let waits : Capture := { captureIn .armed with fetch := some { link := .B, claim := false, fromPart := 0 } }
    (handlerReady base .A 5 = true ∧ base.wires.tableEnds.get .A = 0 ∧ base.wires.readoutEnds.get .A = 0 ∧ base.wires.readoutIn.get .A = []) ∧
    (7 < (8 : Byte).toNat ∧ 1 < (2 : Byte).toNat ∧ 18 < (19 : Byte).toNat) ∧
    ((7 : Byte).toNat = (7 : Fin 8).val ∧ (1 : Byte).toNat ≤ 1 ∧ (18 : Byte).toNat ≤ 18) ∧
    (handlerReady (reading named base) .A 5 = true ∧ ∃ n k, QueueEntry.delivery 0 n k ∈ ((reading named base).readouts.get .A).queue) ∧
    (handlerReady (reading full base) .A 5 = true ∧ 8 ≤ full.queue.length + full.reserved.length ∧
      ¬ ((∃ n k, QueueEntry.delivery 7 n k ∈ full.queue) ∨ ∃ d, full.current = some d ∧ d.slot = 7)) ∧
    (Readout.reset.queue.length + Readout.reset.reserved.length < 8 ∧ base.slot 7 = none ∧
      ¬ ((∃ n k, QueueEntry.delivery 7 n k ∈ Readout.reset.queue) ∨ ∃ d, Readout.reset.current = some d ∧ d.slot = 7)) ∧
    ((holding waits base).slot 0 = some waits ∧ waits.phase.finished = false ∧ waits.fetch ≠ none) ∧
    ((captureIn .armed).phase.finished = false ∧ (captureIn .armed).fetch = none) ∧
    ((captureIn (.claimed .B)).phase = .claimed (otherLink .A)) ∧ ((captureIn .ready).phase.finished = true ∧ (captureIn .ready).phase ≠ .claimed (otherLink .A)) := by
  refine ⟨?_, ?_, ?_, ⟨?_, 17, 0, ?_⟩, ⟨?_, ?_, ?_⟩, ⟨?_, ?_, ?_⟩, ?_⟩ <;> first
    | decide +kernel
    | simp [Readout.reset]

/-! ## Witnesses: the journal's commands and TEST -/

/-- A journal of three entries, of seqs 4294967295, 0 and 1, with these subscriber records. -/
def threeEntries (a b : Option Subscriber) : State :=
  { base with
    journal :=
      { Journal.reset with
        entries :=
          [{ seq := 4294967295, kind := .runStart, tick := 1, test := false }, { seq := 0, kind := .rise 0, tick := 2, test := false },
            { seq := 1, kind := .fall 0, tick := 3, test := false }]
        nextSeq := 2
        subs := { a := a, b := b } } }

/-- A subscriber at these positions, with no frame in flight. -/
def subscriberAt (acked cursor : Nat) : Subscriber := { acked := acked, cursor := cursor, inFlight := none }

theorem witness_SubscribersComeRewindAndGo :
    let alone := threeEntries (some (subscriberAt 4294967295 2)) none
    let both := threeEntries (some (subscriberAt 4294967295 2)) (some (subscriberAt 0 2))
    (handlerReady base .A 5 = true ∧ base.journalEndDue .A = false ∧ base.journal.subs.get .A = none) ∧
    (1 < (2 : Byte).toNat ∧ (1 : Byte).toNat ≤ 1 ∧ (0 : Byte).toNat ≤ 1) ∧
    (handlerReady alone .A 5 = true ∧ alone.journalEndDue .A = false ∧ alone.journal.subs.get .A ≠ none ∧ alone.journal.subs.get (otherLink .A) = none) ∧
    (both.journal.subs.get .A = some (subscriberAt 4294967295 2) ∧ both.journal.subs.get (otherLink .A) = some (subscriberAt 0 2)) := by decide +kernel

theorem witness_AckRemovesWhatAllHaveAcknowledged :
    let s := threeEntries (some (subscriberAt 4294967294 2)) (some (subscriberAt 4294967295 2))
    let j := s.journal
    (handlerReady base .A 5 = true ∧ base.journalEndDue .A = false ∧ base.journal.subs.get .A = none) ∧
    (handlerReady s .A 5 = true ∧ s.journalEndDue .A = false ∧ j.subs.get .A = some (subscriberAt 4294967294 2)) ∧
    ¬ (j.distance 4294967294 < j.distance (4294967294#32).toNat ∧ j.distance (4294967294#32).toNat < j.distance 2) ∧
    ¬ (j.distance 4294967294 < j.distance (2#32).toNat ∧ j.distance (2#32).toNat < j.distance 2) ∧
    (j.distance 4294967294 < j.distance (4294967295#32).toNat ∧ j.distance (1#32).toNat < j.distance 2) := by decide +kernel

/-- Two subscribers, the other at the oldest entry: an acknowledgement of all three removes one. -/
theorem test_ack_waits_for_the_other :
    (after (.journalAck .A 5 1) (threeEntries (some (subscriberAt 4294967294 2)) (some (subscriberAt 4294967295 2)))).journal.entries.map (·.seq)
      = [0, 1] := by decide +kernel

/-- A TEST of channel 0 with these fields. -/
def testRow (width gap : BitVec 16) (slot : Byte) : Instr := .test .A 5 1 0 width gap 1 slot 0 0

theorem witness_TestBeginsARun :
    let run : TestRun := { channels := 1, width := 1, gap := 1, count := 1, label := 0, trigger := none, first := 12, last := 12 }
    let offer : Offer := { source := .test, request := .numbered 0, reference := .ahead 0, pre := none, post := none, label := 0, test := true }
    (handlerReady base .A 5 = true ∧ base.injector = .idle ∧ base.time.running = false) ∧
    (¬ (1#48 ≠ 0#48 ∧ 1 ≤ (4096#16).toNat ∧ (4096#16).toNat ≤ 4095) ∧ ¬ ((8#8).toNat ≤ 7 ∨ 8#8 = 0xFF#8) ∧ ¬ 1 ≤ (0#16).toNat) ∧
    (1#48 ≠ 0#48 ∧ 1 ≤ (4095#16).toNat ∧ (4095#16).toNat ≤ 4095 ∧ 1 ≤ (1#16).toNat ∧ (1#8) ≠ 0#8 ∧ ((7#8).toNat ≤ 7 ∨ 7#8 = 0xFF#8)) ∧
    (({ runAt 10 with injector := .delay run 1 } : State).injector ≠ .idle ∧ handlerReady { runAt 10 with injector := .delay run 1 } .A 5 = true) ∧
    (handlerReady (runAt 10) .A 5 = true ∧ (runAt 10).injector = .idle ∧ (runAt 10).time.running = true) ∧
    (takeOffer offer (runAt 10)).2 = .accepted 0 1 10 (-190) 210 ∧
    (takeOffer offer (holding (captureIn .ready) (runAt 10))).2 = .refused .slotBusy (some 0) := by decide +kernel

/-! ## Witnesses: samples -/

theorem witness_SampleIsMade :
    let run : TestRun := { channels := 1, width := 1, gap := 1, count := 1, label := 0, trigger := none, first := 11, last := 11 }
    let s (follows : Bool) : State :=
      if follows then { runAt 10 with cond := { (runAt 10).cond with channels := (runAt 10).cond.channels.map fun ch => { ch with debounce := 2 } } }
      else { runAt 10 with injector := .injecting run 1 true 1 }
    (base.resetPin = false ∧ base.time.running = false) ∧ (1099511627775 ≤ (runAt 1099511627775).time.tick) ∧
    ((runAt 1099511627774).resetPin = false ∧ (runAt 1099511627774).time.running = true ∧ (runAt 1099511627774).time.tick < 1099511627775) ∧
    ((after (.start .A 1) base).cond.firstDue = true ∧ (after (.start .A 1) base).time.running = true) ∧
    ((runAt 10).wires.ringIn = [] ∧ (after (.sample 0 0x3F) (runAt 10)).wires.ringIn ≠ []) ∧
    ((s true).conditioned 1 0x3F 11).changes ≠ [] ∧ ((s true).sampledCond 1 0x3F 11).channels[0].level = (s true).rawAt 1 0 ∧
    ((s false).injector = .injecting run 1 true 1 ∧ run.channels.getLsbD 0 = true ∧ run.channels.getLsbD 1 = false) := by decide +kernel

/-- R37: a sample still on its way to the ring is appended before the next one is handed to it. -/
theorem test_the_ring_takes_each_sample_before_the_next :
    let t := after (.sample 0 0x3F) (after (.sample 0 0x3F) (runAt 10))
    t.ring.map (·.tick) = [11] ∧ t.wires.ringIn.map (·.tick) = [12] := by decide +kernel

/-- Recording RUNNING, with channel 0 replaced; it uses profile 0, whose debounce count is 3 and whose chatter limit is 20. -/
def channelled (f : Channel → Channel) : State :=
  { runAt 10 with cond := { (runAt 10).cond with channels := (runAt 10).cond.channels.set 0 (f ((runAt 10).cond.channels[0])) } }

/-- CHANNEL[0] and the profile it names replaced in the item store. -/
def configured (r : ChannelRecord) (p : Profile) (s : State) : State :=
  { s with items := { s.items with channels := s.items.channels.set 0 r, profiles := s.items.profiles.set r.profile p } }

/-- CHANNEL[0] inverted. -/
def inverted (s : State) : State := configured { ChannelRecord.default with invert := true } (Profile.default 0) s

/-- CHANNEL[0] moved to profile 1, whose debounce count is 1 and whose chatter limit is 0. -/
def swift (s : State) : State := configured { ChannelRecord.default with profile := 1 } (Profile.default 1) s

/-- Profile 0 with a debounce count of 1; its chatter limit stays 20. -/
def quick (s : State) : State := configured ChannelRecord.default { Profile.default 0 with debounce := 1 } s

/-- A later sample that finds channel 0 live and supplied, told by values. -/
theorem live_next {s : State} (h : (s.resetPin = false ∧ s.samples = true ∧ s.cond.firstDue = false) ∧ s.cond.channels[0].holds.any = false
    ∧ (s.recordOf 0).enabled = true ∧ (s.monitorSample 0x3F (groupOf 0)).1.lost = false) : s.liveNext 0x3F 0 := h

theorem witness_LevelFollowsAfterDebounce :
    let level (s : State) := s.cond.channels[0].level
    let counted := channelled fun ch => { ch with debounce := 2 }
    ((channelled id).liveNext 0x3F 0 ∧ (channelled id).rawAt 0 0 = level (channelled id)) ∧
    ((inverted (channelled id)).liveNext 0x3F 0 ∧ (inverted (channelled id)).rawAt 1 0 = level (inverted (channelled id))
      ∧ (inverted (channelled id)).rawAt 0 0 ≠ level (inverted (channelled id))) ∧
    ((channelled id).rawAt 1 0 ≠ level (channelled id) ∧ (channelled id).cond.channels[0].debounce + 1 ≠ ((channelled id).profileOf 0).debounce) ∧
    (counted.liveNext 0x3F 0 ∧ counted.rawAt 1 0 ≠ level counted ∧ counted.cond.channels[0].debounce + 1 = (counted.profileOf 0).debounce) ∧
    ((swift (channelled id)).liveNext 0x3F 0 ∧ (swift (channelled id)).rawAt 1 0 ≠ level (swift (channelled id))
      ∧ 0 + 1 = ((swift (channelled id)).profileOf 0).debounce ∧ ((swift (channelled id)).profileOf 0).chatterLimit = 0) ∧
    ((quick (channelled id)).liveNext 0x3F 0 ∧ (quick (channelled id)).rawAt 1 0 ≠ level (quick (channelled id))
      ∧ 0 + 1 = ((quick (channelled id)).profileOf 0).debounce ∧ 2 ≤ ((quick (channelled id)).profileOf 0).chatterLimit) :=
  by refine ⟨⟨?_, ?_⟩, ⟨?_, ?_⟩, ?_, ⟨?_, ?_⟩, ⟨?_, ?_⟩, ?_, ?_⟩ <;> first
    | exact live_next (by decide +kernel)
    | decide +kernel

/-- R5: an inverted channel begins with a debounce count of 0 and its window closed; a differing raw value is then its first. -/
theorem test_an_inverted_channel_starts_anew :
    let s := inverted (channelled fun ch => { ch with debounce := 2, window := some { remaining := 9, count := 4 } })
    let t := after (.sample 0 0x3F) s
    s.changesAt 0 0x3F 0 = [] ∧ t.cond.channels[0].debounce = 1 ∧ t.cond.channels[0].window = none := by decide +kernel

/-- R8: with debounce count 3 the transition carries the tick of the third differing sample. -/
theorem test_debounce_count_3 :
    let s := channelled id
    let t := after (.sample 1 0x3F) (after (.sample 1 0x3F) s)
    t.cond.channels[0].level = false ∧ (after (.sample 1 0x3F) t).cond.channels[0].level = true ∧ t.changesAt 1 0x3F 0 = [.rise] := by decide +kernel

theorem witness_ChatterHoldsAndReleases :
    let windowed (remaining count : Nat) := channelled fun ch => { ch with debounce := 2, window := some { remaining := remaining, count := count } }
    let held (quiet : Nat) := channelled fun ch => { ch with holds := { Holds.empty with chatter := true }, quiet := some quiet }
    ((windowed 1 1).liveNext 0x3F 0 ∧ (windowed 2 18).liveNext 0x3F 0 ∧ (windowed 2 19).liveNext 0x3F 0 ∧ (channelled id).liveNext 0x3F 0
      ∧ (quick (windowed 2 19)).liveNext 0x3F 0) ∧
    ((windowed 2 19).rawAt 1 0 ≠ (windowed 2 19).cond.channels[0].level ∧ (windowed 2 19).cond.channels[0].debounce + 1 = 3 ∧
      (windowed 2 19).profileOf 0 = Profile.default 0 ∧ (channelled id).cond.channels[0].window = none ∧ 19 + 1 = (Profile.default 0).chatterLimit) ∧
    ((held 1).resetPin = false ∧ (held 1).samples = true ∧ (held 1).cond.firstDue = false ∧ (held 1).cond.channels[0].holds.chatter = true) ∧
    (((held 1).profileOf 0).chatterLimit ≠ 0 ∧ ((swift (held 1)).profileOf 0).chatterLimit = 0) ∧
    ((held 1).rawAt 0 0 = (held 1).cond.channels[0].prevRaw ∧ (held 1).rawAt 1 0 ≠ (held 1).cond.channels[0].prevRaw ∧
      (inverted (held 1)).rawAt 0 0 = !(held 1).cond.channels[0].prevRaw) ∧
    ((held 1).cond.channels[0].quiet = some 1 ∧ (held 2).cond.channels[0].quiet = some 2) ∧
    (((held 1).recordOf 0).enabled = true ∧ ((held 1).monitorSample 0x3F (groupOf 0)).1.lost = false) ∧
    ((channelled id).rawAt 1 0 ≠ (channelled id).cond.channels[0].level ∧ (channelled id).cond.channels[0].debounce + 1 ≠ (Profile.default 0).debounce) := by
  refine ⟨⟨?_, ?_, ?_, ?_, ?_⟩, ?_⟩ <;> first
    | exact live_next (by decide +kernel)
    | decide +kernel

/-- R9 and spec/01, "Worked Example", tick 103: the window ages at a sample whose debounce count rises without completing. -/
theorem test_the_window_ages_while_the_count_rises :
    let t := after (.sample 1 0x3F) (channelled fun ch => { ch with window := some { remaining := 9, count := 4 } })
    t.cond.channels[0].debounce = 1 ∧ t.cond.channels[0].window = some { remaining := 8, count := 4 } := by decide +kernel

/-- R5 and R11, case 1: a profile with a chatter limit of 0 takes CHATTER away at the next sample, with a LIVE. -/
theorem test_a_chatter_limit_of_0_frees :
    let s := swift (channelled fun ch => { ch with holds := { Holds.empty with chatter := true }, quiet := some 1500 })
    s.changesAt 1 0x3F 0 = [.live true true] ∧ (after (.sample 1 0x3F) s).cond.channels[0].quiet = none := by decide +kernel

/-- Recording RUNNING, with group 0's monitor replaced; five samples without supply lose it, a hundred with it bring it back. -/
def monitored (m : Monitor) : State := { runAt 10 with cond := { (runAt 10).cond with monitors := (runAt 10).cond.monitors.set 0 m } }

theorem witness_SupplyLossHoldsItsGroup :
    let counting (n : Nat) := monitored { lost := false, absent := n, present := 0 }
    let lost (n : Nat) := monitored { lost := true, absent := 0, present := n }
    let off : State := { runAt 10 with items := { Items.default with supplyMonitor := 0 } }
    let barred := configured { ChannelRecord.default with enabled := false } (Profile.default 0) (counting 4)
    let freed := channelled fun ch => { ch with holds := { Holds.empty with supply := true } }
    (off.laterSample ∧ off.items.supplyMonitor.getLsbD 0 = false) ∧
    ((counting 3).laterSample ∧ (counting 3).items.supplyMonitor.getLsbD 0 = true ∧ (counting 3).cond.monitors[0].absent + 1 < (counting 3).items.supplyLossTicks) ∧
    ((counting 4).laterSample ∧ (counting 4).items.supplyLossTicks ≤ (counting 4).cond.monitors[0].absent + 1) ∧
    ((lost 98).laterSample ∧ (lost 98).cond.monitors[0].lost = true ∧ (lost 98).cond.monitors[0].present + 1 < (lost 98).items.supplyReturnTicks) ∧
    ((lost 99).laterSample ∧ (lost 99).items.supplyReturnTicks ≤ (lost 99).cond.monitors[0].present + 1) ∧
    ((0 : Fin 48).val / 8 = (0 : Fin 6).val ∧ ((counting 4).monitorAfter 0 0x3E 0).lost = true ∧ (counting 4).cond.channels[0].holds.supply = false) ∧
    ((barred.recordOf 0).enabled = false ∧ barred.laterSample) ∧
    ((freed.monitorAfter 0 0x3F 0).lost = false ∧ freed.cond.channels[0].holds.supply = true ∧ freed.cond.channels[0].holds.chatter = false) := by
  simp only [State.laterSample]
  decide +kernel

/-- R17: a channel whose group is lost and whose record is disabled at one sample is held for SUPPLY first, then for DISABLED. -/
theorem test_supply_before_disabled :
    let s := configured { ChannelRecord.default with enabled := false } (Profile.default 0) (monitored { lost := false, absent := 4, present := 0 })
    s.changesAt 0 0x3E 0 = [.hold .supply, .hold .disabled] := by decide +kernel

/-- R19: a channel freed from SUPPLY takes up its raw value with a LIVE. -/
theorem test_live_after_supply :
    (channelled fun ch => { ch with holds := { Holds.empty with supply := true } }).changesAt 1 0x3F 0 = [.live true true] := by decide +kernel

theorem witness_InjectionCountsDown :
    let run : TestRun := { channels := 1, width := 2, gap := 1, count := 2, label := 0, trigger := none, first := 12, last := 16 }
    let s (i : Injector) : State := { runAt 10 with injector := i }
    (s .idle).resetPin = false ∧ (s .idle).samples = true ∧ (s (.delay run 1)).samples = true ∧ (s (.injecting run 2 true 1)).samples = true
      ∧ (s (.injecting run 1 false 1)).injector = .injecting run 1 false 1 ∧ 1 < run.count ∧ run.count ≤ 2 := by decide +kernel

/-! ## Witnesses: what blocks take from each other -/

theorem witness_RingAppendsAndRowsAreDamaged :
    let s := wired (fun w => { w with ringIn := [sampleOf 11 []] }) { runAt 11 with ring := [rowAt 10] }
    s.resetPin = false ∧ s.wires.ringIn = sampleOf 11 [] :: [] ∧ base.wires.ringIn = [] ∧ (rowAt 10).tick = 10 ∧ (rowAt 10).damaged = false
      ∧ ((rowAt 10).strike 5 6 true 7).damaged = true ∧
    (RingLaw { Timebase.reset with running := true, tick := 11, runStart := some 10 } [rowAt 10, rowAt 11] [] ∧
      [rowAt 10, rowAt 11].head? = some (rowAt 10) ∧ [rowAt 10, rowAt 11].getLast? = some (rowAt 11)) := by
  refine ⟨by decide, by decide, by decide, by decide, by decide, by decide, ⟨by decide, by decide, ⟨rfl, rfl, trivial⟩, ?_, ?_, nofun⟩, by decide, by decide⟩
  · rintro r ⟨⟩; decide
  · rintro - r ⟨⟩; rfl

/-- R41: an upset of tick 10 damages that row, and a second one changes nothing. -/
theorem test_upset_once :
    let s : State := { runAt 11 with ring := [rowAt 10, rowAt 11] }
    let t := after (.rowDamage 10 5 6 true 7) s
    t.ring.map (·.damaged) = [true, false] ∧ t.ring.map (·.tick) = [10, 11] ∧ (after (.rowDamage 10 8 9 false 1) t).ring = t.ring := by decide

theorem witness_JournalEntersWhatItTakes :
    let lossy (subscribed : Bool) : Journal :=
      { Journal.reset with
        lossCount := 2, firstLost := some 5, lastLost := some 6
        subs := { a := if subscribed then some (subscriberAt 0 1) else none, b := none } }
    let e : TriggerEntry := { kind := .trigger 0 1 .line, test := false }
    ((lossy true).subscribed = true ∧ (lossy true).entries.length < 1024) ∧
    1024 ≤ ({ lossy true with entries := List.replicate 1024 { seq := 0, kind := .runStart, tick := 1, test := false } } : Journal).entries.length ∧
    (Journal.reset.subscribed = false ∧ Journal.reset.lossCount = 0 ∧ (lossy false).subscribed = false ∧ (lossy false).lossCount ≠ 0) ∧
    base.resetPin = false ∧ (wired (fun w => { w with journalIn := [.sample (sampleOf 11 [])] }) base).wires.journalIn = .sample (sampleOf 11 []) :: [] ∧
    (wired (fun w => { w with journalIn := [.runStart 1] }) base).wires.journalIn = .runStart 1 :: [] ∧
    (wired (fun w => { w with journalIn := [.stop .stop 9] }) base).wires.journalIn = .stop .stop 9 :: [] ∧
    (wired (fun w => { w with triggerEntries := [e], testEntries := [e] }) base).wires.triggerEntries = e :: [] := by decide +kernel

/-- The trigger unit with this much holdoff and alert countdown left, and a sample of these changes before it. -/
def unitAt (holdoff countdown : Nat) (changes : List Change) (s : State) : State :=
  wired (fun w => { w with trigIn := [.sample (sampleOf 10 changes)] })
    { s with trig := { TriggerUnit.reset with holdoff := holdoff, alertCountdown := countdown, alert := decide (countdown ≠ 0) } }

theorem witness_TriggerUnitWorksThroughASample :
    let offer : Offer := { source := .auto, request := .auto, reference := .absolute 10, pre := none, post := none, label := 12, test := false }
    let s := unitAt 1 1 [riseOf false true] (runAt 10)
    let noSlot : State := { s with items := { s.items with autoSlots := 0 } }
    let late : State := unitAt 1 0 [riseOf false true] (runAt 90000)
    (s.resetPin = false ∧ s.wires.trigIn = .sample (sampleOf 10 [riseOf false true]) :: [] ∧ s.trig.alertCountdown ≠ 0 ∧ s.trig.alertCountdown - 1 = 0) ∧
    ((riseOf false true :: []).filter (fun x => (x.kind == .rise || x.kind == .fall) && x.alert) = [] ∧
      (riseOf false true :: []).filter (fun x => (x.kind == .rise || x.kind == .fall) && x.auto) = [riseOf false true]) ∧
    (2 ≤ (unitAt 2 0 [riseOf false true] (runAt 10)).trig.holdoff ∧ s.trig.holdoff ≤ 1) ∧
    ((State.reset.links.get .A).session = none ∧ ((runAt 10).links.get .A).session = some 1 ∧
      (([riseOf true false, riseOf true true].filter fun x => (x.kind == .rise || x.kind == .fall) && x.alert).getLast? = some (riseOf true true))) ∧
    (takeOffer offer s).2 = .accepted 6 1 10 (-190) 210 ∧ (takeOffer offer noSlot).2 = .refused .noSlot none ∧
    (takeOffer offer (unitAt 0 0 [riseOf false true] base)).2 = .refused .notRunning none ∧ (takeOffer offer late).2 = .refused .windowGone (some 6) := by
  decide +kernel

/-- R57, R60: of two transitions of one sample, the first is offered and starts the holdoff, the second is held off; both are in the notice. -/
theorem test_two_transitions :
    let t := after .triggerUnitTakeSample (unitAt 0 0 [riseOf true true, riseOf true true] (runAt 10))
    t.trig.autoAccepted = 1 ∧ t.trig.autoHeldOff = 1 ∧ (t.links.get .B).notices.alert = some { count := 2, channel := 12, tick := 10 } := by decide +kernel

theorem witness_TriggerLineOffersItsWords :
    let receiving : State := { base with trig := { TriggerUnit.reset with receiving := true } }
    let waiting : State := { base with trig := { TriggerUnit.reset with awaitHigh := true } }
    let enabled : State := { runAt 10 with items := { Items.default with lineEnable := true }, trig := { TriggerUnit.reset with receiving := true } }
    let ones (bits : BitVec 13) := ((List.range 12).filter fun k => bits.getLsbD k).length
    let offer : Offer := { source := .line, request := .numbered 2, reference := .lagged, pre := none, post := none, label := 42, test := false }
    (receiving.resetPin = false ∧ receiving.trig.receiving = true ∧ base.trig.receiving = false ∧ base.trig.awaitHigh = false ∧ waiting.trig.awaitHigh = true) ∧
    ((0x0FFF#13).getLsbD 12 = false ∧ (0x1000#13).getLsbD 12 = true ∧ ones 0x1000 % 2 = 0 ∧ (0x1001#13).getLsbD 12 = true ∧ ones 0x1001 % 2 = 1) ∧
    (receiving.items.lineEnable = false ∧ enabled.trig.receiving = true ∧ enabled.items.lineEnable = true ∧ enabled.time.running = true) ∧
    (base.wires.lineOffers = [] ∧ base.wires.lineAnswers = [] ∧ (wired (fun w => { w with lineOffers := [offer] }) base).wires.lineOffers = offer :: []) ∧
    (wired (fun w => { w with lineAnswers := [(offer, .accepted 2 42 1000 800 1200)] }) base).wires.lineAnswers
      = (offer, .accepted 2 42 1000 800 1200) :: [] ∧
    Result.slotBusy ≠ .notRunning ∧ offer.request = .numbered (2 : Fin 8).val := by decide +kernel

/-- R52: the word for slot 2, label $2A, with its parity bit (four ones in slot and label, so the bit is 1) and its stop bit. -/
theorem test_line_word :
    let s : State := { runAt 1004 with items := { Items.default with lineEnable := true }, trig := { TriggerUnit.reset with receiving := true } }
    (after (.lineWord 0x1952) s).wires.lineOffers
      = [{ source := .line, request := .numbered 2, reference := .lagged, pre := none, post := none, label := 0x2A, test := false }] := by decide +kernel

theorem witness_SlotTableTakesSamplesAndStops :
    let s := holding (captureIn .armed) (wired (fun w => { w with slotIn := [.sample (sampleOf 503 [])] }) (runAt 502))
    let t := holding (captureIn .armed) (wired (fun w => { w with slotIn := [.stop .stop 496] }) (runAt 496))
    s.resetPin = false ∧ s.wires.slotIn = .sample (sampleOf 503 []) :: [] ∧ t.wires.slotIn = .stop .stop 496 :: [] ∧
      (captureIn .armed).ref + ((captureIn .armed).post : Int) ≤ 503 := by decide +kernel

/-! ## Witnesses: extraction and the pool -/

/-- A QUEUED capture in slot 0, at the head of the extraction queue. -/
def queued : State :=
  let s := holding (captureIn .queued) (runAt 600)
  { s with table := { s.table with queue := [0] } }

/-- The request of that reading, with this answer. -/
def requestOf (answer : Option ReadAnswer) : ReadRequest := { slot := 0, serial := 17, start := 497, stop := 503, answer := answer }

/-- An intact row with these levels. -/
def readRow (tick : Nat) (levels : Bitmap) : ReadRow := { tick := tick, content := some ({ levels := levels, held := 0 }, false) }

theorem witness_EngineTakesTheHeadOfTheQueue :
    let busy := engined (.reading readingOf) queued
    (base.resetPin = false ∧ base.table.queue = []) ∧
    (queued.resetPin = false ∧ queued.table.queue = 0 :: [] ∧ queued.slot 0 = some (captureIn .queued) ∧ queued.engines.get .e0 = .idle) ∧
    (busy.engines.get .e1 = .idle ∧ busy.engines.x0 ≠ .idle) := by decide +kernel

theorem witness_ExtractionBeginsWithTheRingsAnswer :
    let answer : ReadAnswer := { oldest := 498, rows := [{ tick := 498, content := none }, readRow 499 4] }
    let s (q : ReadRequest) := engined (.reading readingOf) (wired (fun w => { w with reads := { w.reads with x0 := [q] } }) (runAt 600))
    let isFor (q : ReadRequest) : Bool := q.slot == readingOf.slot && q.serial == readingOf.serial
    (s (requestOf none)).resetPin = false ∧ (s (requestOf none)).engines.get .e0 = .reading readingOf ∧ (requestOf none).take (s (requestOf none)).ring = none ∧
    ((s (requestOf (some answer))).wires.reads.get .e0).find? isFor = some (requestOf (some answer)) ∧ (requestOf (some answer)).take [] = some answer ∧
    (readRow 499 4).content = some ({ levels := 4, held := 0 }, false) := by decide +kernel

theorem witness_RowsBecomeRecords :
    let base0 : RowLevels := { levels := 0, held := 0 }
    let s (w : Working) := engined (.working w) (runAt 600)
    let fullSet : Working := { workingOn [readRow 499 4] none with records := List.replicate 1024 { channel := 2, kind := .rise, offset := -3 } }
    let roomy : Working := { workingOn [readRow 499 4] none with blocks := [5] }
    let p : Placing := { tick := 499, content := { levels := 4, held := 0 }, records := rowRecords base0 { levels := 4, held := 0 } (-1) }
    let many : Placing := { p with records := List.replicate 33 { channel := 2, kind := .rise, offset := -1 } }
    ((s (workingOn [] none)).resetPin = false ∧
      (wired (fun w => { w with blockRequests := { w.blockRequests with x0 := [{ slot := 0, serial := 17 }] } }) base).wires.blockRequests.get .e0
        = { slot := 0, serial := 17 } :: [] ∧
      base.pool[127 % base.pool.length]? = some 127 ∧ ({ base with pool := [] } : State).pool = []) ∧
    ((workingOn [{ tick := 499, content := none }] none).placing = none ∧ (workingOn [readRow 499 0] none).baseline = some base0 ∧
      rowRecords base0 base0 (-1) = [] ∧ p.records ≠ []) ∧
    (1024 < fullSet.records.length + p.records.length ∧ (0 + p.records.length + 31) / 32 ≤ roomy.blocks.length ∧
      (workingOn [readRow 499 4] none).blocks.length < (0 + p.records.length + 31) / 32) ∧
    ((workingOn [] (some p)).placing = some p ∧ 0 + p.records.length ≤ 1024 ∧ (0 + p.records.length + 31) / 32 ≤ 0 + 1 ∧
      0 + 1 < (0 + many.records.length + 31) / 32) := by decide +kernel

theorem witness_ExtractionEndsInACapture :
    let w := workingOn [] none
    let s := holding (captureIn .extracting) (engined (.ending w) (runAt 600))
    ((engined (.working w) base).resetPin = false ∧ (engined (.working w) base).engines.get .e0 = .working w ∧ w.rows = [] ∧ w.placing = none) ∧
    (workingOn [readRow 499 4] none).rows ≠ [] ∧
    (s.engines.get .e0 = .ending w ∧ s.slot w.slot = some (captureIn .extracting) ∧ (captureIn .extracting).serial = w.serial) ∧
    ((engined (.ending w) base).engines.get .e0 = .ending w ∧ (engined (.ending w) base).slot w.slot = none) := by decide +kernel

theorem witness_DroppedWorkGivesItsBlocksBack :
    let dropping (x : EngineState) := engined x (wired (fun w => { w with drops := { w.drops with x0 := [(0, 17)] } }) base)
    let answers := wired (fun w => { w with blockAnswers := { w.blockAnswers with x0 := [{ slot := 0, serial := 17, block := some 5 }] } }) base
    let read : State := wired (fun w => { w with reads := { w.reads with x0 := [requestOf (some { oldest := 1, rows := [] })] } }) base
    ((dropping (.reading readingOf)).resetPin = false ∧ (dropping (.reading readingOf)).wires.drops.get .e0 = (0, 17) :: [] ∧
      (dropping (.reading readingOf)).engines.get .e0 = .reading readingOf ∧ readingOf.slot = 0 ∧ readingOf.serial = 17) ∧
    ((dropping (.working (workingOn [] none))).engines.get .e0 = .working (workingOn [] none)) ∧
    (((dropping .idle).engines.get .e0).worksOn ≠ some (0, 17)) ∧
    ((answers.engines.get .e0).worksOn ≠ some (0, 17) ∧ answers.wires.blockAnswers.get .e0 = { slot := 0, serial := 17, block := some 5 } :: []) ∧
    (read.wires.reads.get .e0 = [] ++ requestOf (some { oldest := 1, rows := [] }) :: [] ∧ (requestOf (some { oldest := 1, rows := [] })).take read.ring ≠ none) ∧
    (wired (fun w => { w with tableReturns := [[3, 4]] }) base).wires.tableReturns = [3, 4] :: [] ∧
    (wired (fun w => { w with engineReturns := { w.engineReturns with x0 := [[3]] } }) base).wires.engineReturns.get .e0 = [3] :: [] := by decide +kernel

/-! ## Witnesses: readout units and session ends -/

/-- The hand-offs with this one for link A's readout unit. -/
def tellA (m : ReadoutMessage) (s : State) : State := wired (fun w => { w with readoutIn := { w.readoutIn with a := [m] } }) s

theorem witness_ReadoutUnitsTakeNews :
    let own : ReadoutMessage := .ready 0 17 .linkB (some { link := .A, claim := true, fromPart := 0 })
    let q : Readout := { queue := [.delivery 1 3 0], reserved := [(0, 17)], current := some { slot := 1, serial := 3, fromPart := 0, next := .part 0, sent := 0 } }
    base.resetPin = false ∧ (reading q (tellA own base)).wires.readoutIn.get .A = own :: [] ∧ (0, 17) ∈ q.reserved ∧
    (tellA (.ready 0 17 .linkB none) base).wires.readoutIn.get .A = .ready 0 17 .linkB none :: [] ∧ Source.linkB ≠ .line ∧ Source.linkB ≠ .linkA ∧
    (tellA (.readyAgain 0) base).wires.readoutIn.get .A = .readyAgain 0 :: [] ∧
    (tellA (.release 1 3) base).wires.readoutIn.get .A = .release 1 3 :: [] ∧ (tellA (.abort 0 17) base).wires.readoutIn.get .A = .abort 0 17 :: [] := by
  decide +kernel

theorem witness_SessionEndsAreTaken :
    let ended := wired fun w =>
      { w with
        tableEnds := { w.tableEnds with a := 1 }
        readoutEnds := { w.readoutEnds with a := 1 }
        journalLinkIn := { w.journalLinkIn with a := [.sessionEnd] } }
    let alone := ended (threeEntries (some (subscriberAt 4294967294 2)) none)
    let both := ended (threeEntries (some (subscriberAt 4294967294 2)) (some (subscriberAt 0 2)))
    (base.resetPin = false ∧ base.wires.tableEnds.get .A = 0 ∧ base.wires.readoutEnds.get .A = 0) ∧
    ((ended base).wires.tableEnds.get .A ≠ 0 ∧ (ended base).wires.readoutEnds.get .A ≠ 0 ∧ (ended base).wires.journalLinkIn.get .A = .sessionEnd :: [] ∧
      (ended base).journal.subs.get .A = none) ∧
    (alone.journal.subs.get .A ≠ none ∧ alone.journal.subs.get (otherLink .A) = none) ∧
    (both.journal.subs.get .A ≠ none ∧ both.journal.subs.get (otherLink .A) = some (subscriberAt 0 2)) := by decide +kernel

/-! ## Witnesses: links -/

theorem witness_ReceiverTakesCharacters :
    base.resetPin = false ∧ (base.links.get .A).receiver = .hunt ∧ (240#8).toNat ≤ 240 ∧ 240 < (241#8).toNat ∧
    ((after (.characterReceived .A 0xC3) base).links.get .A).receiver = .awaitLen ∧
    ((after (.characterReceived .A 1) (after (.characterReceived .A 0xC3) base)).links.get .A).receiver = .awaitSeq 1 ∧
    ((after (.characterReceived .A 7) (after (.characterReceived .A 1) (after (.characterReceived .A 0xC3) base))).links.get .A).receiver = .awaitKind 1 7 ∧
    (linked { openLink with receiver := .body 2 7 0x10 [1] } base).links.a.receiver = .body 2 7 0x10 [1] ∧
    (linked { openLink with receiver := .check 0 7 3 [] none } base).links.a.receiver = .check 0 7 3 [] none ∧
    (linked { openLink with receiver := .check 0 7 3 [] (some 1) } base).links.a.receiver = .check 0 7 3 [] (some 1) ∧
    ((base.links.get .A).stretch = .high ∧ ({ openLink with stretch := .counted } : LinkState).stretch ≠ .high) := by decide +kernel

/-- A complete frame of SEQ 5, with its check right. -/
def pingFrame (kind : Byte) (bytes : List Byte) : RawFrame :=
  let crc := crcOf (BitVec.ofNat 8 bytes.length :: 5 :: kind :: bytes)
  { len := BitVec.ofNat 8 bytes.length, seq := 5, kind := kind, bytes := bytes, crcHigh := byteOf crc 1, crcLow := byteOf crc 0 }

/-- A link whose PING of SEQ 5 awaits its owner. -/
def busyLink : LinkState := { openLink with inHand := some { seq := 5, command := .ping } }

theorem witness_FramesReceivedAreJudged :
    let s (f : RawFrame) := linked { openLink with complete := [f] } base
    (base.resetPin = false ∧ (base.links.get .A).complete = []) ∧
    ((s (pingFrame 3 [])).links.get .A).complete = pingFrame 3 [] :: [] ∧ (pingFrame 3 []).checks = true ∧
    handlerReady (s (pingFrame 3 [])) .A (pingFrame 3 []).seq = true ∧ readFrame 3 [] = .command .ping ∧
    ({ pingFrame 3 [] with crcLow := 0 } : RawFrame).checks = false ∧
    ((pingFrame 4 []).checks = true ∧ readFrame 4 [] = .unknownKind) ∧ ((pingFrame 3 [0]).checks = true ∧ readFrame 3 [0] = .wrongLength) ∧
    (handlerFree (s (pingFrame 3 [])) .A = true ∧ hostCommand (.ping .A 5) = some (.A, (pingFrame 3 []).seq, .ping)) ∧
    (handlerFree (linked { repliedLink 4 with complete := [pingFrame 3 []] } base) .A = true ∧ 4 ≤ (repliedLink 4).replies.length) ∧
    (({ repliedLink 3 with cache := some { seq := 5, kind := 3, body := .session 1, after := .nothing } } : LinkState).cache.map (·.seq) = some 5) ∧
    (({ base with device := .pending .B false .reply } : State).resetPending = true ∧ ({ openLink with byeMark := true } : LinkState).session.isSome = true) ∧
    ((State.reset.links.get .A).session = none ∧ Command.ping ≠ .hello ∧ handlerTakes State.reset .A 5 = true) ∧
    ((pingFrame 1 []).checks = true ∧ readFrame 1 [] = .command .hello ∧ hostCommand (.hello .A 5) = some (.A, (pingFrame 1 []).seq, .hello)) ∧
    (((linked { busyLink with complete := [pingFrame 3 []] } base).links.get .A).inHand ≠ none ∧ busyLink.inHand = some { seq := 5, command := .ping } ∧
      hostCommand (.ping .A 6) = some (.A, 6, .ping) ∧ busyLink.inHand ≠ some { seq := 6, command := .ping }) ∧
    ((linked busyLink base).resetPin = false ∧ (linked busyLink base).resetPending = false ∧
      (linked busyLink { base with device := .pending .B false .reply }).resetPending = true) ∧
    (openLink.inHand = none ∧ openLink.replies.length < 4 ∧ openLink.cache.map (·.seq) ≠ some 6 ∧ openLink.session.isSome = true ∧ openLink.byeMark = false) := by
  decide +kernel

/-- R168: a frame that completes while a command is in hand waits, and the owner's answer brings it in hand. -/
theorem test_a_frame_waits_its_turn :
    let s := after (.frameReceived .A) (linked { busyLink with inHand := some { seq := 4, command := .ping }, complete := [pingFrame 3 []] } base)
    let t := after (.ping .A 4) s
    s.links.a.waiting.map (·.seq) = [5] ∧ t.links.a.replies.map (·.seq) = [4] ∧ t.links.a.waiting = []
      ∧ t.links.a.inHand = some { seq := 5, command := .ping } := by decide +kernel

/-- A PING frame, character by character and then judged, does what its row does to the reply queue. -/
theorem test_ping_by_characters :
    let s := (frameBytes 5 0x03 []).foldl (fun s c => after (.characterReceived .A c) s) base
    (after (.ping .A 5) (after (.frameReceived .A) s)).links.a.replies = (after (.ping .A 5) base).links.a.replies := by decide +kernel

theorem witness_BreakAndTimeoutEndTheSession :
    let s (ms : Nat) := linked (quietLink ms) base
    (base.resetPin = false ∧ (base.links.get .A).waiting = [] ∧
      ({ openLink with waiting := [{ seq := 6, kind := 3, reading := .command .ping }] } : LinkState).waiting ≠ []) ∧
    ({ openLink with stretch := .inBreak } : LinkState).stretch = .inBreak ∧ (base.links.get .A).stretch ≠ .inBreak ∧
    (State.reset.links.get .A).session = none ∧ (base.links.get .A).session = some 1 ∧ base.items.sessionTimeout ≠ 0 ∧
    ((s 2999).links.get .A).sinceGood < (s 2999).items.sessionTimeout ∧ (s 3000).items.sessionTimeout ≤ ((s 3000).links.get .A).sinceGood := by
  decide +kernel

/-- R168, R173: a frame that waited when a break came is taken on the CLOSED link, and answered NO_SESSION. -/
theorem test_a_waiting_frame_after_a_break :
    let k : LinkState :=
      { openLink with inHand := some { seq := 5, command := .ping }, waiting := [{ seq := 6, kind := 3, reading := .command .ping }] }
    let t := (after (.lineBreak .A true) (linked k base)).links.a
    t.waiting = [] ∧ t.replies = [{ seq := 6, kind := 3, body := .refused .noSession, after := .nothing }] := by decide +kernel

theorem witness_TransmitterChoosesInOrder :
    let s (k : LinkState) := linked k base
    let declined : LinkState := { openLink with tx := .declined }
    let giving (q : Readout) := reading q (s declined)
    let headed (j : NextFrame) : Readout := { Readout.reset with current := some { slot := 0, serial := 17, fromPart := 0, next := j, sent := 0 } }
    (base.resetPin = false ∧ (base.links.get .A).mayChoose = true ∧ base.resetDueOn .A = false) ∧
    ((s { openLink with tx := .asking }).links.get .A).mayChoose = false ∧
    ({ base with device := .pending .A true .due } : State).resetDueOn .A = true ∧
    ((s { openLink with rateDue := some .r115200, pendingEnd := some (.timeout, 1) }).links.get .A).mayChoose = true ∧
    ((s (repliedLink 1)).links.get .A).mayChoose = true ∧ (repliedLink 1).replies.length = 1 ∧
    ({ openLink with notices := { Notices.empty with fault := true } } : LinkState).notices ≠ Notices.empty ∧
    (openLink.replies = [] ∧ openLink.notices = Notices.empty ∧ openLink.tx = .idle ∧ openLink.pendingEnd = none) ∧
    ((s declined).links.get .A).mayChoose = true ∧ ((s declined).readouts.get .A).current = none ∧
    ((giving (headed (.ending .complete))).wires.readoutEnds.get .A = 0 ∧ (headed (.part 0)).current ≠ none) ∧
    ((giving (headed (.part 0))).slot 0 = none ∧ (holding (captureIn .ready) (giving (headed (.part 0)))).slot 0 = some (captureIn .ready) ∧
      (captureIn .ready).serial = 17 ∧ (captureIn .ready).phase.finished = true) ∧
    (({ Readout.reset with queue := [.cutEnding 0 1] } : Readout).current = none ∧ ({ Readout.reset with queue := [.abortedEnding 0 1] } : Readout).current = none
      ∧ ({ Readout.reset with queue := [.delivery 0 17 18] } : Readout).current = none) := by decide +kernel

theorem witness_FramesSentCallForWhatTheyCarry :
    let sending (b : FrameBody) : LinkState := { openLink with tx := .sending (openLink.frameFor b) }
    let reply (a : AfterReply) : FrameBody := .reply { seq := 5, kind := 2, body := .session 1, after := a }
    let asked (m : JournalMessage) (x : Option Subscriber) := wired (fun w => { w with journalLinkIn := { w.journalLinkIn with a := [m] } }) (threeEntries x none)
    let flying : Subscriber := { acked := 4294967294, cursor := 4294967295, inFlight := some (4294967295, 3) }
    let j := (asked .frameRequest (some (subscriberAt 4294967294 4294967295))).journal
    (base.resetPin = false ∧ ((linked (sending (reply .nothing)) base).links.get .A).tx = .sending (openLink.frameFor (reply .nothing))) ∧
    ({ sending (reply (.byeEnd 1)) with byeMark := true }.session = some 1) ∧ (sending (reply (.byeEnd 2))).session ≠ some 2 ∧
    (({ base with device := .pending .A true .reply } : State).device = .pending .A true .reply ∧
      ({ base with device := .pending .A true (.sessionEnd 1) } : State).device = .pending .A true (.sessionEnd 1)) ∧
    ((base.links.get .A).onLine = false ∧ ({ openLink with rateDue := some .r115200 } : LinkState).rateDue = some .r115200 ∧
      (sending (reply .nothing)).onLine = true ∧ openLink.rateDue = none) ∧
    ((asked .frameRequest none).wires.journalLinkIn.get .A = .frameRequest :: [] ∧ (asked .frameRequest none).journal.subs.get .A = none) ∧
    ((asked .frameRequest (some flying)).journal.subs.get .A = some flying ∧ flying.inFlight ≠ none) ∧
    (j.distance 4294967295 ≤ j.entries.length ∧ j.distance 4294967295 - j.distance 4294967294 - 1 < 64 ∧ j.entries.length < j.distance 2) ∧
    ((asked .completion (some flying)).wires.journalLinkIn.get .A = .completion :: [] ∧ flying.inFlight = some (4294967295, 3)) := by decide +kernel

end Sys2Proof.Tests
end

section
/-! SUPPORT. RELEASE (R118, R119): the slot byte as read, a slot emptied, the owner's checks in their order, and the row at a ready handler. -/

namespace Sys2Proof.Machine

/-! ## The slot byte and an emptied slot -/

theorem readSlot_eq_none {b : Byte} (h : 7 < b.toNat) : readSlot b = none := dif_neg (by omega)

theorem readSlot_eq_some {b : Byte} {i : Fin 8} (h : b.toNat = i.val) : readSlot b = some i := by
  simp [readSlot, h]

theorem returnFromTable_eq (bs : List Nat) (s : State) : s.returnFromTable bs = { s with
    wires := { s.wires with tableReturns := if bs = [] then s.wires.tableReturns else s.wires.tableReturns ++ [bs] } } := by
  cases bs <;> rfl

/-- R67: the slot EMPTY and off the acceptance list, its blocks on their way to the pool. -/
theorem emptySlot_eq (i : Fin 8) (c : Capture) (s : State) : emptySlot i c s = { s with
    table := { s.table with slots := s.table.slots.set i none, acceptance := s.table.acceptance.erase i }
    wires := { s.wires with
      tableReturns := if c.blocks = [] then s.wires.tableReturns else s.wires.tableReturns ++ [c.blocks] } } := by
  rw [emptySlot, returnFromTable_eq]; rfl

/-- R119: the slot emptied, and both readout units told. -/
theorem acceptRelease_eq (i : Fin 8) (c : Capture) (s : State) : acceptRelease i c s = { s with
    table := { s.table with slots := s.table.slots.set i none, acceptance := s.table.acceptance.erase i }
    wires := { s.wires with
      tableReturns := if c.blocks = [] then s.wires.tableReturns else s.wires.tableReturns ++ [c.blocks]
      readoutIn := { a := s.wires.readoutIn.a ++ [.release i c.serial], b := s.wires.readoutIn.b ++ [.release i c.serial] } } } := by
  rw [acceptRelease, emptySlot_eq]; rfl

/-- The slot table's part in a RELEASE does not look at the links. -/
theorem acceptRelease_links (i : Fin 8) (c : Capture) (s : State) (k : PerLink LinkState) :
    acceptRelease i c { s with links := k } = { acceptRelease i c s with links := k } := by
  simp only [acceptRelease_eq]

/-! ## The checks of R118 on the capture -/

theorem releaseRefusal_stale (l : Link) {c : Capture} {n : Nat} (h : c.serial ≠ n) : releaseRefusal l c n = some .stale := if_pos h

theorem releaseRefusal_notHolder {l : Link} {c : Capture} (h : c.phase ≠ .claimed l) : releaseRefusal l c c.serial = some .notHolder := by
  simp [releaseRefusal, h]

theorem releaseRefusal_holder {l : Link} {c : Capture} (h : c.phase = .claimed l) : releaseRefusal l c c.serial = none := by
  simp [releaseRefusal, h]

/-! ## The owner, check by check -/

section
variable {s : State} {l : Link} {slot : Byte} {serial : BitVec 16} (hends : s.wires.tableEnds.get l = 0)
include hends

theorem releaseOwner_badValue (h : 7 < slot.toNat ∨ serial = 0#16) :
    releaseOwner l slot serial s = some (s, .refused .badValue, .nothing) := by
  rw [releaseOwner, if_neg (not_not_intro hends)]
  rcases h with hslot | hserial
  · rw [readSlot_eq_none hslot]
  · cases readSlot slot <;> simp [hserial]

variable {i : Fin 8} (hi : slot.toNat = i.val) (hserial : serial ≠ 0#16)
include hi hserial

theorem releaseOwner_noCapture (h : s.slot i = none) :
    releaseOwner l slot serial s = some (s, .refused .noCapture, .nothing) := by
  simp only [releaseOwner, hends, readSlot_eq_some hi, hserial, h, ne_eq, not_true_eq_false, if_false]

theorem releaseOwner_refused {c : Capture} (h : s.slot i = some c) {code : Result} (hr : releaseRefusal l c serial.toNat = some code) :
    releaseOwner l slot serial s = some (s, .refused code, .nothing) := by
  simp only [releaseOwner, hends, readSlot_eq_some hi, hserial, h, hr, ne_eq, not_true_eq_false, if_false]

theorem releaseOwner_accepted {c : Capture} (h : s.slot i = some c) (hr : releaseRefusal l c serial.toNat = none) :
    releaseOwner l slot serial s = some (acceptRelease i c s, .release i c.serial c.blocks.length, .nothing) := by
  simp only [releaseOwner, hends, readSlot_eq_some hi, hserial, h, hr, ne_eq, not_true_eq_false, if_false]

end

/-! ## The row at a ready handler -/

/-- What the owner answers on whatever links it is given, the row answers on its link. -/
theorem exec_release_ready {l : Link} {seq slot : Byte} {serial : BitVec 16} {s t : State} {body : ReplyBody}
    (hready : handlerReady s l seq = true)
    (howner : ∀ k : PerLink LinkState,
      releaseOwner l slot serial { s with links := k } = some ({ t with links := k }, body, .nothing))
    (hlinks : t.links = s.links) :
    exec (.release l seq slot serial) s = .next (t.replied l seq 0x41#8 body) := by
  show unlessHeld (commandRow l seq (.release slot serial) (releaseOwner l slot serial)) s = _
  rw [unlessHeld_free s (handlerReady_free s l seq hready), commandRow_answers s l seq _ hready howner hlinks]
  rfl

/-- Settles O34: the owner's checks follow R118's order, and past them it empties the slot and tells both readout units (R119). -/
theorem releaseEmptiesTheSlot : Obligations.ReleaseEmptiesTheSlot := by
  unfold Obligations.ReleaseEmptiesTheSlot
  intro l seq slot serial s hready hends
  refine ⟨fun hbad => exec_release_ready hready (fun _ => releaseOwner_badValue hends hbad) rfl, fun i hi hserial => ⟨?empty, ?held⟩⟩
  case empty =>
    intro hnone
    exact exec_release_ready hready (fun _ => releaseOwner_noCapture hends hi hserial hnone) rfl
  case held =>
    intro c hc
    have refusedWith {code : Result} (hr : releaseRefusal l c serial.toNat = some code) :
        exec (.release l seq slot serial) s = .next (s.replied l seq 0x41#8 (.refused code)) :=
      exec_release_ready hready (fun k => releaseOwner_refused (s := { s with links := k }) hends hi hserial hc hr) rfl
    refine ⟨fun hne => refusedWith (releaseRefusal_stale l hne), fun heq => ⟨fun hph => ?notHolder, fun hph => ?accepted⟩⟩
    case notHolder => exact refusedWith (heq ▸ releaseRefusal_notHolder hph)
    case accepted =>
      have hr : releaseRefusal l c serial.toNat = none := heq ▸ releaseRefusal_holder hph
      rw [← acceptRelease_eq]
      refine exec_release_ready hready (fun k => ?_) (by rw [acceptRelease_eq])
      rw [← acceptRelease_links]
      exact releaseOwner_accepted (s := { s with links := k }) hends hi hserial hc hr

end Sys2Proof.Machine
end

section
/-! SUPPORT. A subscriber comes, rewinds and goes (R133, R135, R138, R139): what the removal leaves, the owners' checks in their order, and the
rows at a ready handler. -/

namespace Sys2Proof.Machine

/-! ## The removal of R133 -/

/-- R133, as claims speak of it: the removable entries go, with a LOSS entry for what was lost. -/
theorem Journal.removeAcked_eq (j : Journal) (now : Nat) : j.removeAcked now = j.afterRemoval j.removable now := rfl

section
variable {j : Journal} {l : Link}

/-- The mode without a link's record is the other link's to say (R125). -/
theorem Journal.subscribed_setSub_none : (j.setSub l none).subscribed = (j.subs.get (otherLink l)).isSome := by
  cases l <;> simp [Journal.setSub, Journal.subscribed, PerLink.set, PerLink.get, otherLink]

/-- What counts as acknowledged without a link's record is the other link's position, or nothing. -/
theorem Journal.ackDistance_setSub_none :
    (j.setSub l none).ackDistance = ((j.subs.get (otherLink l)).map fun y => j.distance y.acked).getD 0 := by
  have same (n : Nat) (x : Option Subscriber) : (j.setSub l x).distance n = j.distance n := rfl
  cases l with
  | A => simp only [Journal.ackDistance, same]; cases h : j.subs.b <;> simp [Journal.setSub, PerLink.set, PerLink.get, otherLink, h]
  | B => simp only [Journal.ackDistance, same]; cases h : j.subs.a <;> simp [Journal.setSub, PerLink.set, PerLink.get, otherLink, h]

/-- With no record left nothing is removed (R139). -/
theorem Journal.leavingRemoves_of_last (h : j.subs.get (otherLink l) = none) : j.leavingRemoves l = 0 := by
  rw [Journal.leavingRemoves, Journal.removable, Journal.ackDistance_setSub_none, h]
  exact Nat.zero_min _

/-- The removal at a leaving is against the record that remains (R139). -/
theorem Journal.leavingRemoves_of_other {y : Subscriber} (h : j.subs.get (otherLink l) = some y) :
    j.leavingRemoves l = min (j.distance y.acked) j.entries.length := by
  rw [Journal.leavingRemoves, Journal.removable, Journal.ackDistance_setSub_none, h]
  rfl

/-- The last subscriber leaves: both records absent, and every entry stays (R139). -/
theorem Journal.unsubscribe_of_last (h : j.subs.get (otherLink l) = none) (now : Nat) :
    j.unsubscribe l now = { j with subs := { a := none, b := none } } := by
  have alone : (j.setSub l none).subscribed = false := by rw [Journal.subscribed_setSub_none, h]; rfl
  have both : j.subs.set l none = { a := none, b := none } := by
    cases l <;> simp_all [PerLink.set, PerLink.get, otherLink]
  rw [Journal.unsubscribe, if_neg (by simp [alone]), Journal.setSub, both]

/-- A subscriber leaves another behind (R139). -/
theorem Journal.unsubscribe_of_other {y : Subscriber} (h : j.subs.get (otherLink l) = some y) (now : Nat) :
    j.unsubscribe l now =
      ({ j with subs := j.subs.set l none } : Journal).afterRemoval (min (j.distance y.acked) j.entries.length) now := by
  have stays : (j.setSub l none).subscribed = true := by rw [Journal.subscribed_setSub_none, h]; rfl
  rw [← Journal.leavingRemoves_of_other h]
  simp only [Journal.unsubscribe, stays, if_true, Journal.removeAcked_eq]
  rfl

end

/-! ## The starting positions of a JOURNAL-SUBSCRIBE (R135) -/

theorem readPosition_eq_none {b : Byte} (h : 1 < b.toNat) : readPosition b = none := by
  have not0 : b ≠ 0#8 := by rintro rfl; simp at h
  have not1 : b ≠ 1#8 := by rintro rfl; simp at h
  simp [readPosition, not0, not1]

theorem readPosition_eq_some {b : Byte} (h : b.toNat ≤ 1) : readPosition b = some (decide (b = 0#8)) := by
  by_cases is0 : b = 0#8
  · simp [readPosition, is0]
  · have is1 : b = 1#8 := by bv_omega
    simp [readPosition, is1]

/-- R135: from the oldest entry on, or after the newest. -/
theorem Journal.newSubscriber_decide (j : Journal) (b : Byte) : j.newSubscriber (decide (b = 0#8)) =
    { acked := if b = 0#8 then wrap32 (j.oldest + 4294967295) else wrap32 (j.nextSeq + 4294967295)
      cursor := if b = 0#8 then j.oldest else j.nextSeq
      inFlight := none } := by
  simp only [Journal.newSubscriber, decide_eq_true_eq]
  rfl

/-! ## The owners, check by check -/

section
variable {s : State} {l : Link} (hends : s.journalEndDue l = false)
include hends

section
variable {position : Byte}

theorem subscribeOwner_badValue (h : 1 < position.toNat) :
    subscribeOwner l position s = some (s, .refused .badValue, .nothing) := by
  simp [subscribeOwner, hends, readPosition_eq_none h]

theorem subscribeOwner_alreadySubscribed (h : position.toNat ≤ 1) (hsub : s.journal.subs.get l ≠ none) :
    subscribeOwner l position s = some (s, .refused .alreadySubscribed, .nothing) := by
  simp [subscribeOwner, hends, readPosition_eq_some h, Option.isSome_iff_ne_none, hsub]

theorem subscribeOwner_accepted (h : position.toNat ≤ 1) (hsub : s.journal.subs.get l = none) :
    let x := s.journal.newSubscriber (decide (position = 0#8))
    subscribeOwner l position s =
      some (s.modJournal fun j => j.setSub l (some x), s.journal.subscribeReply x, .nothing) := by
  simp [subscribeOwner, hends, readPosition_eq_some h, hsub]

end

section
variable (hsub : s.journal.subs.get l = none)
include hsub

theorem rewindOwner_notSubscribed : rewindOwner l s = some (s, .refused .notSubscribed, .nothing) := by
  simp [rewindOwner, hends, hsub]

theorem unsubscribeOwner_notSubscribed : unsubscribeOwner l s = some (s, .refused .notSubscribed, .nothing) := by
  simp [unsubscribeOwner, hends, hsub]

end

section
variable {x : Subscriber} (hsub : s.journal.subs.get l = some x)
include hsub

theorem rewindOwner_accepted :
    rewindOwner l s = some (s.modJournal fun j => j.setSub l (some x.rewound), .rewind x.rewound.cursor, .nothing) := by
  simp [rewindOwner, hends, hsub]

theorem unsubscribeOwner_accepted :
    unsubscribeOwner l s =
      some (s.modJournal fun j => j.unsubscribe l s.journalNow, .unsubscribe (s.journal.leavingRemoves l), .nothing) := by
  simp [unsubscribeOwner, hends, hsub]

end
end

/-! ## The rows at a ready handler -/

/-- What an owner answers on whatever links it is given, the row of its command answers on its link. -/
theorem unlessHeld_commandRow_ready {l : Link} {seq : Byte} {c : Command} {own : Owner} {s t : State} {body : ReplyBody}
    (hready : handlerReady s l seq = true)
    (howner : ∀ k : PerLink LinkState, own { s with links := k } = some ({ t with links := k }, body, .nothing))
    (hlinks : t.links = s.links) :
    unlessHeld (commandRow l seq c own) s = .next (t.replied l seq c.kind body) := by
  rw [unlessHeld_free s (handlerReady_free s l seq hready), commandRow_answers s l seq c hready howner hlinks]
  rfl

section
variable {l : Link} {seq : Byte} {s : State} (hready : handlerReady s l seq = true) (hends : s.journalEndDue l = false)
include hready hends

/-- R135: the position byte is checked before the record; past both the new record is written, and the REPLY gives the journal's bounds. -/
theorem exec_journalSubscribe_ready (position : Byte) :
    let x := s.journal.newSubscriber (decide (position = 0#8))
    (1 < position.toNat → exec (.journalSubscribe l seq position) s = .next (s.replied l seq 0x50#8 (.refused .badValue))) ∧
    (position.toNat ≤ 1 → s.journal.subs.get l ≠ none →
      exec (.journalSubscribe l seq position) s = .next (s.replied l seq 0x50#8 (.refused .alreadySubscribed))) ∧
    (position.toNat ≤ 1 → s.journal.subs.get l = none →
      exec (.journalSubscribe l seq position) s =
        .next ((s.modJournal fun j => j.setSub l (some x)).replied l seq 0x50#8 (s.journal.subscribeReply x))) := by
  refine ⟨fun hbad => ?badValue, fun hgood hsub => ?already, fun hgood hsub => ?accepted⟩
  case badValue => exact unlessHeld_commandRow_ready hready (fun k => subscribeOwner_badValue (s := { s with links := k }) hends hbad) rfl
  case already =>
    exact unlessHeld_commandRow_ready hready (fun k => subscribeOwner_alreadySubscribed (s := { s with links := k }) hends hgood hsub) rfl
  case accepted => exact unlessHeld_commandRow_ready hready (fun k => subscribeOwner_accepted (s := { s with links := k }) hends hgood hsub) rfl

theorem exec_rewind_unsubscribe_notSubscribed (hsub : s.journal.subs.get l = none) :
    exec (.journalRewind l seq) s = .next (s.replied l seq 0x52#8 (.refused .notSubscribed)) ∧
    exec (.journalUnsubscribe l seq) s = .next (s.replied l seq 0x53#8 (.refused .notSubscribed)) :=
  ⟨unlessHeld_commandRow_ready hready (fun k => rewindOwner_notSubscribed (s := { s with links := k }) hends hsub) rfl,
    unlessHeld_commandRow_ready hready (fun k => unsubscribeOwner_notSubscribed (s := { s with links := k }) hends hsub) rfl⟩

variable {x : Subscriber} (hsub : s.journal.subs.get l = some x)
include hsub

/-- R138. -/
theorem exec_journalRewind_subscribed :
    exec (.journalRewind l seq) s =
      .next ((s.modJournal fun j => j.setSub l (some x.rewound)).replied l seq 0x52#8 (.rewind x.rewound.cursor)) :=
  unlessHeld_commandRow_ready hready (fun k => rewindOwner_accepted (s := { s with links := k }) hends hsub) rfl

/-- R139. -/
theorem exec_journalUnsubscribe_subscribed :
    exec (.journalUnsubscribe l seq) s =
      .next ((s.modJournal fun j => j.unsubscribe l s.journalNow).replied l seq 0x53#8 (.unsubscribe (s.journal.leavingRemoves l))) :=
  unlessHeld_commandRow_ready hready (fun k => unsubscribeOwner_accepted (s := { s with links := k }) hends hsub) rfl

end

/-- Settles O36: each row answers what its owner does (R135, R138, R139); who leaves last removes nothing, and who leaves another behind removes
what that one has acknowledged (R133). -/
theorem subscribersComeRewindAndGo : Obligations.SubscribersComeRewindAndGo := by
  unfold Obligations.SubscribersComeRewindAndGo
  intro l seq s hready hends
  refine ⟨fun position => ?subscribe, exec_rewind_unsubscribe_notSubscribed hready hends,
    fun x hsub => ⟨?rewind, fun hlast => ?last, fun y hother => ?other⟩⟩
  case subscribe =>
    have rows := exec_journalSubscribe_ready hready hends position
    rw [Journal.newSubscriber_decide] at rows
    exact rows
  case rewind => exact exec_journalRewind_subscribed hready hends hsub
  case last =>
    rw [exec_journalUnsubscribe_subscribed hready hends hsub, Journal.leavingRemoves_of_last hlast, State.modJournal,
      Journal.unsubscribe_of_last hlast]
  case other =>
    rw [exec_journalUnsubscribe_subscribed hready hends hsub, Journal.leavingRemoves_of_other hother, State.modJournal,
      Journal.unsubscribe_of_other hother]

end Sys2Proof.Machine
end

section
/-! SUPPORT. The fault log is read and cleared (R151, R152): how many records a FAULTS-CLEAR removes, the log it leaves, and the rows at a ready
handler. -/

namespace Sys2Proof.Machine

/-! ## How many records a FAULTS-CLEAR removes (R152) -/

section
variable {f : FaultLog} {upTo : Nat}

theorem FaultLog.cleared_of_zero_or_empty (h : upTo = 0 ∨ f.records = []) : f.cleared upTo = 0 := by
  cases hf : f.records with
  | nil => simp only [FaultLog.cleared, hf]
  | cons oldest rest =>
    have is0 : upTo = 0 := h.resolve_right (by simp [hf])
    simp only [FaultLog.cleared, hf, is0, true_or, if_true]

variable {oldest : FaultRecord} {rest : List FaultRecord} (hf : f.records = oldest :: rest)
include hf

/-- A seq further from the oldest than the log is long names no record. -/
theorem FaultLog.cleared_of_beyond (h : f.records.length < clearCount oldest.seq upTo) : f.cleared upTo = 0 := by
  rw [hf] at h
  simp only [FaultLog.cleared, hf, h, or_true, if_true]

theorem FaultLog.cleared_of_within (h0 : upTo ≠ 0) (h : clearCount oldest.seq upTo ≤ f.records.length) :
    f.cleared upTo = clearCount oldest.seq upTo := by
  rw [hf] at h
  simp only [FaultLog.cleared, hf, h0, Nat.not_lt.mpr h, or_self, if_false]

end

/-- R152: the records from the n-th on stay, and a log emptied so has lost none. -/
theorem FaultLog.remove_eq (f : FaultLog) (n : Nat) : f.remove n =
    { f with records := f.records.drop n, lost := if 0 < n ∧ f.records.drop n = [] then 0 else f.lost } := by
  simp only [FaultLog.remove, Nat.pos_iff_ne_zero]

/-! ## The rows at a ready handler -/

section
variable {l : Link} {seq : Byte} {s : State} (hready : handlerReady s l seq = true)
include hready

/-- R151. -/
theorem exec_faultsRead_ready :
    exec (.faultsRead l seq) s = .next (s.replied l seq 0x70#8 (.faultsRead s.faults.records s.faults.lost s.faults.nextSeq)) :=
  unlessHeld_commandRow_ready (own := faultsReadOwner) hready (fun _ => rfl) rfl

/-- R152: the log without the records removed, and their number, the number left and the lost count in the REPLY. -/
theorem exec_faultsClear_ready (upTo : BitVec 16) {n : Nat} (hn : s.faults.cleared upTo.toNat = n) :
    exec (.faultsClear l seq upTo) s = .next ((s.setFaults (s.faults.remove n)).replied l seq 0x71#8
      (.faultsClear n (s.faults.remove n).records.length (s.faults.remove n).lost)) := by
  subst hn
  exact unlessHeld_commandRow_ready (own := faultsClearOwner upTo) hready (fun _ => rfl) rfl

end

/-- Settles O26: the read changes nothing in the log (R151), and a clear removes as many records as its seq names, counted from the oldest modulo
65535, if the log holds so many (R152). -/
theorem faultsAreReadAndCleared : Obligations.FaultsAreReadAndCleared := by
  unfold Obligations.FaultsAreReadAndCleared
  intro l seq s hready
  refine ⟨exec_faultsRead_ready hready, fun upTo => ?clear⟩
  have row {n : Nat} (hn : s.faults.cleared upTo.toNat = n) := exec_faultsClear_ready hready upTo hn
  simp only [FaultLog.remove_eq] at row
  refine ⟨fun hnone => row ?none, fun oldest rest hf h0 => ⟨fun hin => row ?within, fun hout => row ?beyond⟩⟩
  case none => exact FaultLog.cleared_of_zero_or_empty (hnone.imp_left fun is0 => by simp [is0])
  case within => exact FaultLog.cleared_of_within hf (by simpa [BitVec.toNat_eq] using h0) hin
  case beyond => exact FaultLog.cleared_of_beyond hf hout

end Sys2Proof.Machine
end

section
/-! SUPPORT. Which places of the state each row of the table reaches, and the induction over a step that the laws of Safety.lean are kept by:
a law about some places has to be checked only for the rows that reach one of them. -/

-- One theorem at a time: the proofs of so long a text would each hold a thread.
set_option Elab.async false

namespace Sys2Proof.Machine

/-! ## Places -/

/-- The parts of the state that the laws of Safety.lean speak of, and the queue. -/
inductive Place where
  | items | time | cond | injector | ring | ringIn | trig | table | engines | pool | blockAnswers | tableReturns | engineReturns
  | readouts | journal | faults | links | tableEnds | resetPin | pending
  deriving DecidableEq

/-- Two states hold the same in a place. -/
def Place.same (s t : State) : Place → Prop
  | .items => t.items = s.items
  | .time => t.time = s.time
  | .cond => t.cond = s.cond
  | .injector => t.injector = s.injector
  | .ring => t.ring = s.ring
  | .ringIn => t.wires.ringIn = s.wires.ringIn
  | .trig => t.trig = s.trig
  | .table => t.table = s.table
  | .engines => t.engines = s.engines
  | .pool => t.pool = s.pool
  | .blockAnswers => t.wires.blockAnswers = s.wires.blockAnswers
  | .tableReturns => t.wires.tableReturns = s.wires.tableReturns
  | .engineReturns => t.wires.engineReturns = s.wires.engineReturns
  | .readouts => t.readouts = s.readouts
  | .journal => t.journal = s.journal
  | .faults => t.faults = s.faults
  | .links => t.links = s.links
  | .tableEnds => t.wires.tableEnds = s.wires.tableEnds
  | .resetPin => t.resetPin = s.resetPin
  | .pending => t.pending = s.pending

/-- Two states hold the same everywhere but in these places. -/
def State.AgreesBut (ps : List Place) (s t : State) : Prop := ∀ p, p ∉ ps → p.same s t

/-- The places each row reaches (Laws/Footprints.lean). -/
def reach : Instr → List Place
  | .hello _ _ => [.links, .tableEnds]
  | .set _ _ _ _ => [.items, .links, .tableEnds]
  | .start _ _ => [.links, .time, .cond, .injector, .ring, .ringIn]
  | .stop _ _ => [.links, .time]
  | .trigger _ _ _ _ _ _ _ _ => [.links, .table]
  | .abort _ _ _ _ => [.links, .table, .tableReturns]
  | .fetch _ _ _ _ _ => [.links, .table, .readouts]
  | .release _ _ _ _ => [.links, .table, .tableReturns]
  | .journalSubscribe _ _ _ => [.links, .journal]
  | .journalAck _ _ _ => [.links, .journal]
  | .journalRewind _ _ => [.links, .journal]
  | .journalUnsubscribe _ _ => [.links, .journal]
  | .test _ _ _ _ _ _ _ _ _ _ => [.links, .table, .injector]
  | .testCancel _ _ => [.links, .injector]
  | .faultsClear _ _ _ => [.links, .faults]
  | .bye _ _ | .ping _ _ | .get _ _ _ | .deviceReset _ _ _ | .snapshot _ _ | .slotStatus _ _ _ | .faultsRead _ _ => [.links]
  | .sample _ _ | .debounceComplete _ _ _ | .chatterWindowExpiry _ _ _ | .quietCountdownExpiry _ _ _ | .supplyLost _ _ _
  | .supplyBack _ _ _ | .testDelayExpiry _ _ | .testPhaseExpiry _ _ => [.time, .cond, .injector, .ring, .ringIn]
  | .ringAppend => [.ring, .ringIn]
  | .rowDamage _ _ _ _ _ => [.ring]
  | .journalTakeSample | .journalRunStart | .journalRunStop | .journalTakeTriggerEntry _ | .journalFrameCompletion _
  | .journalTakeSessionEnd _ => [.journal]
  | .journalFrameRequest _ => [.journal, .links]
  | .triggerUnitTakeSample | .alertCountdownExpiry => [.links, .trig, .table]
  | .triggerUnitTakeStop | .lineWord _ | .lineAnswer | .lineStartBit _ _ => [.trig]
  | .slotTableTakeSample | .slotTableTakeStop | .slotTableOffer => [.table]
  | .slotTableTakeSessionEnd _ => [.table, .tableEnds]
  | .faultRecord _ => [.faults, .links]
  | .tickLimitStop => [.time]
  | .injectorTakeStop => [.injector]
  | .engineTakeSlot => [.table, .engines]
  | .extractionBegin _ | .extractionRow _ => [.engines]
  | .blockRequest _ _ => [.pool, .blockAnswers]
  | .blockAnswer _ => [.engines, .blockAnswers]
  | .extractionEnd _ | .engineDrop _ => [.engines, .engineReturns]
  | .extractionEndTaken _ => [.table, .engines, .tableReturns]
  | .lateEngineAnswer _ _ => [.blockAnswers, .engineReturns]
  | .poolReturn _ => [.pool, .tableReturns, .engineReturns]
  | .readoutTakeReady _ => [.readouts, .links]
  | .readoutTakeAbort _ | .readoutTakeRelease _ | .readoutTakeSessionEnd _ => [.readouts]
  | .frameReceived _ | .gapTimeout _ | .characterFramingError _ _ | .linkRateTakeUp _ | .characterReceived _ _ => [.links]
  | .lineBreak _ _ | .sessionTimeout _ | .frameSent _ => [.links, .tableEnds]
  | .transmitChoose _ => [.links, .readouts]
  | .resetCarriedOut => [.items, .time, .cond, .injector, .ring, .ringIn, .trig, .table, .engines, .pool, .blockAnswers, .tableReturns,
      .engineReturns, .readouts, .journal, .faults, .links, .tableEnds]
  | .hardReset => [.items, .time, .cond, .injector, .ring, .ringIn, .trig, .table, .engines, .pool, .blockAnswers, .tableReturns,
      .engineReturns, .readouts, .journal, .faults, .links, .tableEnds, .resetPin]
  | .resetPinAsserted => [.trig, .resetPin]

/-! ## Each row keeps to its places -/

section
variable {ps : List Place} {s t u : State}

/-- The agreement place by place, for a state written out from another. -/
theorem State.agreesBut_iff : State.AgreesBut ps s t ↔
    (.items ∈ ps ∨ t.items = s.items) ∧ (.time ∈ ps ∨ t.time = s.time) ∧ (.cond ∈ ps ∨ t.cond = s.cond) ∧
    (.injector ∈ ps ∨ t.injector = s.injector) ∧ (.ring ∈ ps ∨ t.ring = s.ring) ∧ (.ringIn ∈ ps ∨ t.wires.ringIn = s.wires.ringIn) ∧
    (.trig ∈ ps ∨ t.trig = s.trig) ∧ (.table ∈ ps ∨ t.table = s.table) ∧ (.engines ∈ ps ∨ t.engines = s.engines) ∧
    (.pool ∈ ps ∨ t.pool = s.pool) ∧ (.blockAnswers ∈ ps ∨ t.wires.blockAnswers = s.wires.blockAnswers) ∧
    (.tableReturns ∈ ps ∨ t.wires.tableReturns = s.wires.tableReturns) ∧
    (.engineReturns ∈ ps ∨ t.wires.engineReturns = s.wires.engineReturns) ∧ (.readouts ∈ ps ∨ t.readouts = s.readouts) ∧
    (.journal ∈ ps ∨ t.journal = s.journal) ∧ (.faults ∈ ps ∨ t.faults = s.faults) ∧ (.links ∈ ps ∨ t.links = s.links) ∧
    (.tableEnds ∈ ps ∨ t.wires.tableEnds = s.wires.tableEnds) ∧ (.resetPin ∈ ps ∨ t.resetPin = s.resetPin) ∧
    (.pending ∈ ps ∨ t.pending = s.pending) := by
  simp only [or_iff_not_imp_left]
  constructor
  · intro h
    exact ⟨h .items, h .time, h .cond, h .injector, h .ring, h .ringIn, h .trig, h .table, h .engines, h .pool, h .blockAnswers, h .tableReturns,
      h .engineReturns, h .readouts, h .journal, h .faults, h .links, h .tableEnds, h .resetPin, h .pending⟩
  · rintro ⟨h1, h2, h3, h4, h5, h6, h7, h8, h9, h10, h11, h12, h13, h14, h15, h16, h17, h18, h19, h20⟩ p
    cases p <;> assumption

theorem State.AgreesBut.refl : State.AgreesBut ps s s := fun p _ => by cases p <;> rfl

theorem State.AgreesBut.trans (h : State.AgreesBut ps s t) (h' : State.AgreesBut ps t u) : State.AgreesBut ps s u := by
  intro p hp
  have a := h p hp
  have b := h' p hp
  cases p <;> exact Eq.trans b a

theorem State.AgreesBut.links (h : .links ∈ ps) (k : PerLink LinkState) : State.AgreesBut ps s { s with links := k } := by
  simp [State.agreesBut_iff, h]

/-- A row that the reset pin holds back keeps to the places of its happening. -/
theorem unlessHeld_agrees {f : State → State} (h : State.AgreesBut ps s (f s)) :
    ∃ t, unlessHeld f s = .next t ∧ State.AgreesBut ps s t := by
  refine ⟨_, rfl, ?_⟩
  split
  · exact .refl
  · exact h

/-- A command row keeps to the places of its owner, and the links. -/
theorem commandRow_agrees {l : Link} {seq : Byte} {c : Command} {own : Owner} (hl : .links ∈ ps)
    (h : ∀ {u t : State} {body : ReplyBody} {after : AfterReply}, own u = some (t, body, after) → State.AgreesBut ps u t) :
    ∃ t, unlessHeld (commandRow l seq c own) s = .next t ∧ State.AgreesBut ps s t := by
  refine unlessHeld_agrees ?_
  obtain ⟨k, hk⟩ | ⟨k, t, body, a, k', ht, hk⟩ := commandRow_cases s l seq c own
  · exact hk ▸ .links hl k
  · exact hk ▸ ((State.AgreesBut.links hl k).trans (h ht)).trans (.links hl k')

/-- Each of the eight rows of a sample is one sample or none. -/
theorem sampleWhen_agrees (b : Bool) (pins : Bitmap) (senses : GroupSet) :
    State.AgreesBut [.time, .cond, .injector, .ring, .ringIn] s (sampleWhen b pins senses s) := by
  unfold sampleWhen
  split
  · obtain ⟨_, _, _, _, _, _, _, _, _, _, h⟩ := makeSample_only s pins senses
    simp [State.agreesBut_iff, h]
  · exact .refl

end

/-- What each owner's happening reaches, and no more. -/
theorem exec_command_agrees (i : Instr) (s : State) (h : (hostCommand i).isSome) :
    ∃ t, exec i s = .next t ∧ State.AgreesBut (reach i) s t := by
  cases i with
  | hello l _ =>
    exact commandRow_agrees (by simp [reach]) fun h => by
      obtain ⟨_, _, _, _, _, rfl⟩ := helloOwner_only _ l h
      simp [State.agreesBut_iff, reach]
  | bye l _ =>
    exact commandRow_agrees (by simp [reach]) fun h => by
      obtain ⟨_, rfl⟩ := byeOwner_only _ l h
      simp [State.agreesBut_iff, reach]
  | ping l _ =>
    exact commandRow_agrees (by simp [reach]) fun h => by
      obtain rfl := pingOwner_only _ l h
      simp [State.agreesBut_iff, reach]
  | get l _ _ =>
    exact commandRow_agrees (by simp [reach]) fun h => by
      obtain rfl := getOwner_only _ l _ h
      simp [State.agreesBut_iff, reach]
  | set l _ _ _ =>
    exact commandRow_agrees (by simp [reach]) fun h => by
      obtain ⟨_, _, _, _, _, _, rfl⟩ := setOwner_only _ l _ _ h
      simp [State.agreesBut_iff, reach]
  | deviceReset l _ _ =>
    exact commandRow_agrees (by simp [reach]) fun h => by
      obtain ⟨_, rfl⟩ := deviceResetOwner_only _ l _ h
      simp [State.agreesBut_iff, reach]
  | start _ _ =>
    exact commandRow_agrees (by simp [reach]) fun h => by
      obtain ⟨_, _, _, _, _, _, _, _, rfl⟩ := startOwner_only _ h
      simp [State.agreesBut_iff, reach]
  | stop _ _ =>
    exact commandRow_agrees (by simp [reach]) fun h => by
      obtain ⟨_, _, _, _, _, rfl⟩ := stopOwner_only _ h
      simp [State.agreesBut_iff, reach]
  | snapshot _ _ =>
    exact commandRow_agrees (by simp [reach]) fun h => by
      obtain rfl := snapshotOwner_only _ h
      simp [State.agreesBut_iff, reach]
  | trigger _ _ _ _ _ _ _ _ =>
    exact commandRow_agrees (by simp [reach]) fun h => by
      obtain ⟨_, _, rfl⟩ := triggerOwner_only _ _ h
      simp [State.agreesBut_iff, reach]
  | abort l _ _ _ =>
    exact commandRow_agrees (by simp [reach]) fun h => by
      obtain ⟨_, _, _, _, rfl⟩ := abortOwner_only _ l _ _ h
      simp [State.agreesBut_iff, reach]
  | slotStatus l _ _ =>
    exact commandRow_agrees (by simp [reach]) fun h => by
      obtain rfl := slotStatusOwner_only _ l _ h
      simp [State.agreesBut_iff, reach]
  | fetch l _ _ _ _ =>
    exact commandRow_agrees (by simp [reach]) fun h => by
      obtain ⟨_, _, rfl⟩ := fetchOwner_only _ l _ _ _ h
      simp [State.agreesBut_iff, reach]
  | release l _ _ _ =>
    exact commandRow_agrees (by simp [reach]) fun h => by
      obtain ⟨_, _, _, rfl⟩ := releaseOwner_only _ l _ _ h
      simp [State.agreesBut_iff, reach]
  | journalSubscribe l _ _ =>
    exact commandRow_agrees (by simp [reach]) fun h => by
      obtain ⟨_, rfl⟩ := subscribeOwner_only _ l _ h
      simp [State.agreesBut_iff, reach]
  | journalAck l _ _ =>
    exact commandRow_agrees (by simp [reach]) fun h => by
      obtain ⟨_, rfl⟩ := ackOwner_only _ l _ h
      simp [State.agreesBut_iff, reach]
  | journalRewind l _ =>
    exact commandRow_agrees (by simp [reach]) fun h => by
      obtain ⟨_, rfl⟩ := rewindOwner_only _ l h
      simp [State.agreesBut_iff, reach]
  | journalUnsubscribe l _ =>
    exact commandRow_agrees (by simp [reach]) fun h => by
      obtain ⟨_, rfl⟩ := unsubscribeOwner_only _ l h
      simp [State.agreesBut_iff, reach]
  | test _ _ _ _ _ _ _ _ _ _ =>
    exact commandRow_agrees (by simp [reach]) fun h => by
      obtain ⟨_, _, _, rfl⟩ := testOwner_only _ _ _ _ _ _ _ _ _ h
      simp [State.agreesBut_iff, reach]
  | testCancel _ _ =>
    exact commandRow_agrees (by simp [reach]) fun h => by
      obtain ⟨_, rfl⟩ := testCancelOwner_only _ h
      simp [State.agreesBut_iff, reach]
  | faultsRead _ _ =>
    exact commandRow_agrees (by simp [reach]) fun h => by
      obtain rfl := faultsReadOwner_only _ h
      simp [State.agreesBut_iff, reach]
  | faultsClear _ _ _ =>
    exact commandRow_agrees (by simp [reach]) fun h => by
      obtain ⟨_, rfl⟩ := faultsClearOwner_only _ _ h
      simp [State.agreesBut_iff, reach]
  | _ => simp [hostCommand] at h

/-- Each row of the table reaches its places and no others. -/
theorem exec_agrees (i : Instr) (s : State) : ∃ t, exec i s = .next t ∧ State.AgreesBut (reach i) s t := by
  cases i with
  | ringAppend =>
    obtain ⟨_, _, _, e⟩ := ringAppend_only s
    exact unlessHeld_agrees (by simp [State.agreesBut_iff, reach, e])
  | journalTakeSample =>
    obtain ⟨_, _, e⟩ := journalTakeSample_only s
    exact unlessHeld_agrees (by simp [State.agreesBut_iff, reach, e])
  | triggerUnitTakeSample =>
    obtain ⟨_, _, _, _, _, _, e⟩ := trigUnitTakeSample_only s
    exact unlessHeld_agrees (by simp [State.agreesBut_iff, reach, e])
  | slotTableTakeSample =>
    obtain ⟨_, _, e⟩ := tableTakeSample_only s
    exact unlessHeld_agrees (by simp [State.agreesBut_iff, reach, e])
  | faultRecord r =>
    obtain ⟨_, _, _, _, _, e⟩ := faultRecord_only s r
    exact unlessHeld_agrees (by simp [State.agreesBut_iff, reach, e])
  | tickLimitStop =>
    obtain ⟨_, _, _, _, _, e⟩ := limitStop_only s
    exact unlessHeld_agrees (by simp [State.agreesBut_iff, reach, e])
  | journalRunStart =>
    obtain ⟨_, _, e⟩ := journalRunStart_only s
    exact unlessHeld_agrees (by simp [State.agreesBut_iff, reach, e])
  | journalRunStop =>
    obtain ⟨_, _, e⟩ := journalRunStop_only s
    exact unlessHeld_agrees (by simp [State.agreesBut_iff, reach, e])
  | slotTableTakeStop =>
    obtain ⟨_, _, _, e⟩ := tableTakeStop_only s
    exact unlessHeld_agrees (by simp [State.agreesBut_iff, reach, e])
  | triggerUnitTakeStop =>
    obtain ⟨_, _, e⟩ := trigUnitTakeStop_only s
    exact unlessHeld_agrees (by simp [State.agreesBut_iff, reach, e])
  | injectorTakeStop =>
    obtain ⟨_, _, e⟩ := injectorTakeStop_only s
    exact unlessHeld_agrees (by simp [State.agreesBut_iff, reach, e])
  | rowDamage k a b m n =>
    obtain ⟨_, e⟩ := damageRow_only s k a b m n
    exact unlessHeld_agrees (by simp [State.agreesBut_iff, reach, e])
  | lineWord b =>
    obtain ⟨_, _, e⟩ := completeWord_only s b
    exact unlessHeld_agrees (by simp [State.agreesBut_iff, reach, e])
  | lineAnswer =>
    obtain ⟨_, _, _, e⟩ := takeLineAnswer_only s
    exact unlessHeld_agrees (by simp [State.agreesBut_iff, reach, e])
  | slotTableOffer =>
    obtain ⟨_, _, _, e⟩ := tableTakeOffer_only s
    exact unlessHeld_agrees (by simp [State.agreesBut_iff, reach, e])
  | journalTakeTriggerEntry g =>
    obtain ⟨_, _, _, e⟩ := journalTakeTriggerEntry_only s g
    exact unlessHeld_agrees (by simp [State.agreesBut_iff, reach, e])
  | engineTakeSlot =>
    obtain ⟨_, _, _, e⟩ := engineTakeSlot_only s
    exact unlessHeld_agrees (by simp [State.agreesBut_iff, reach, e])
  | extractionBegin e =>
    obtain ⟨_, _, _, e⟩ := extractionBegin_only s e
    exact unlessHeld_agrees (by simp [State.agreesBut_iff, reach, e])
  | extractionRow e =>
    obtain ⟨_, _, _, e⟩ := extractionRow_only s e
    exact unlessHeld_agrees (by simp [State.agreesBut_iff, reach, e])
  | blockRequest e k =>
    obtain ⟨_, _, _, h⟩ := blockRequest_only s e k
    exact unlessHeld_agrees (by simp [State.agreesBut_iff, reach, h])
  | blockAnswer e =>
    obtain ⟨_, _, _, _, h⟩ := blockAnswer_only s e
    exact unlessHeld_agrees (by simp [State.agreesBut_iff, reach, h])
  | extractionEnd e =>
    obtain ⟨_, _, e⟩ := extractionEnd_only s e
    exact unlessHeld_agrees (by simp [State.agreesBut_iff, reach, e])
  | extractionEndTaken e =>
    obtain ⟨_, _, _, _, e⟩ := takeEnd_only s e
    exact unlessHeld_agrees (by simp [State.agreesBut_iff, reach, e])
  | engineDrop e =>
    obtain ⟨_, _, _, h⟩ := engineDrop_only s e
    exact unlessHeld_agrees (by simp [State.agreesBut_iff, reach, h])
  | lateEngineAnswer e a =>
    obtain ⟨_, _, _, h⟩ := lateEngineAnswer_only s e a
    exact unlessHeld_agrees (by simp [State.agreesBut_iff, reach, h])
  | poolReturn g =>
    obtain ⟨_, _, _, e⟩ := poolReturn_only s g
    exact unlessHeld_agrees (by simp [State.agreesBut_iff, reach, e])
  | readoutTakeReady l =>
    obtain ⟨_, _, _, e⟩ := readoutTakeReady_only s l
    exact unlessHeld_agrees (by simp [State.agreesBut_iff, reach, e])
  | readoutTakeAbort l =>
    obtain ⟨_, _, e⟩ := readoutTakeAbort_only s l
    exact unlessHeld_agrees (by simp [State.agreesBut_iff, reach, e])
  | readoutTakeRelease l =>
    obtain ⟨_, _, e⟩ := readoutTakeRelease_only s l
    exact unlessHeld_agrees (by simp [State.agreesBut_iff, reach, e])
  | slotTableTakeSessionEnd l =>
    obtain ⟨_, _, _, e⟩ := tableTakeSessionEnd_only s l
    exact unlessHeld_agrees (by simp [State.agreesBut_iff, reach, e])
  | readoutTakeSessionEnd l =>
    obtain ⟨_, _, e⟩ := readoutTakeSessionEnd_only s l
    exact unlessHeld_agrees (by simp [State.agreesBut_iff, reach, e])
  | journalTakeSessionEnd l =>
    obtain ⟨_, _, e⟩ := journalTakeSessionEnd_only s l
    exact unlessHeld_agrees (by simp [State.agreesBut_iff, reach, e])
  | frameReceived l =>
    obtain ⟨_, e⟩ := frameReceived_only s l
    exact unlessHeld_agrees (by simp [State.agreesBut_iff, reach, e])
  | lineBreak l h =>
    obtain ⟨_, _, _, _, _, e⟩ := lineBreaks_only s l h
    exact unlessHeld_agrees (by simp [State.agreesBut_iff, reach, e])
  | sessionTimeout l =>
    obtain ⟨_, _, _, _, _, e⟩ := sessionTimeout_only s l
    exact unlessHeld_agrees (by simp [State.agreesBut_iff, reach, e])
  | transmitChoose l =>
    obtain ⟨_, _, _, e⟩ := transmitChoose_only s l
    exact unlessHeld_agrees (by simp [State.agreesBut_iff, reach, e])
  | journalFrameRequest l =>
    obtain ⟨_, _, _, e⟩ := journalFrameRequest_only s l
    exact unlessHeld_agrees (by simp [State.agreesBut_iff, reach, e])
  | frameSent l =>
    obtain ⟨_, _, _, _, _, e⟩ := frameSent_only s l
    exact unlessHeld_agrees (by simp [State.agreesBut_iff, reach, e])
  | journalFrameCompletion l =>
    obtain ⟨_, _, e⟩ := journalFrameCompletion_only s l
    exact unlessHeld_agrees (by simp [State.agreesBut_iff, reach, e])
  | linkRateTakeUp l =>
    obtain ⟨_, e⟩ := linkRateTakeUp_only s l
    exact unlessHeld_agrees (by simp [State.agreesBut_iff, reach, e])
  | sample p g => exact unlessHeld_agrees (sampleWhen_agrees true p g)
  | debounceComplete c p g | chatterWindowExpiry c p g | quietCountdownExpiry c p g | supplyLost c p g | supplyBack c p g =>
    exact unlessHeld_agrees (sampleWhen_agrees _ p g)
  | testDelayExpiry p g | testPhaseExpiry p g => exact unlessHeld_agrees (sampleWhen_agrees _ p g)
  | alertCountdownExpiry =>
    refine unlessHeld_agrees ?_
    obtain ⟨_, _, _, _, _, _, e⟩ := trigUnitTakeSample_only s
    split <;> simp [State.agreesBut_iff, reach, e]
  | gapTimeout l => exact unlessHeld_agrees (f := fun s => s.modLink l _) (by simp [State.agreesBut_iff, reach])
  | characterFramingError l => exact unlessHeld_agrees (f := fun s => s.modLink l _) (by simp [State.agreesBut_iff, reach])
  | characterReceived l => exact unlessHeld_agrees (f := fun s => s.modLink l _) (by simp [State.agreesBut_iff, reach])
  | lineStartBit => exact unlessHeld_agrees (f := fun s => s.modTrig _) (by simp [State.agreesBut_iff, reach])
  | resetCarriedOut =>
    refine unlessHeld_agrees ?_
    unfold resetCarriedOut
    split <;> simp [State.agreesBut_iff, reach, State.afterReset]
  | hardReset => exact ⟨_, rfl, by simp [State.agreesBut_iff, reach, hardReset]⟩
  | resetPinAsserted => exact ⟨_, rfl, by simp [State.agreesBut_iff, reach, assertPin]⟩
  | _ => exact exec_command_agrees _ s rfl

/-! ## The induction over a step -/

/-- A row leaves every place it does not reach. -/
theorem exec_same {i : Instr} {s t : State} (h : exec i s = .next t) {p : Place} (hp : p ∉ reach i) : p.same s t := by
  obtain ⟨u, hu, ha⟩ := exec_agrees i s
  obtain rfl : u = t := by simpa [hu] using h
  exact ha p hp

/-- A law that speaks of the places `ps` alone is kept by every step when every row that reaches one of them keeps it, and the passing of a
millisecond where it speaks of the links. -/
theorem step_keeps {P : State → Prop} {ps : List Place} (frame : ∀ {s t : State}, (∀ p ∈ ps, p.same s t) → P s → P t) (hpending : .pending ∉ ps)
    (clock : .links ∈ ps → ∀ s, P s → P (millisecond s))
    (rows : ∀ i, (∃ p ∈ ps, p ∈ reach i) → ∀ {s t : State}, P s → exec i s = .next t → P t) :
    ∀ s t : State, P s → step s = .next t → P t := by
  intro s t hP h
  unfold step at h
  split at h
  · obtain rfl : millisecond s = t := by simpa using h
    by_cases hl : .links ∈ ps
    · exact clock hl s hP
    · refine frame (fun p hp => ?_) hP
      unfold millisecond
      split <;> cases p <;> first | rfl | exact absurd hp hl
  · rename_i i rest _
    have hs : P (s.setPending rest) := frame (fun p hp => by cases p <;> first | rfl | exact absurd hp hpending) hP
    by_cases hi : ∃ p ∈ ps, p ∈ reach i
    · exact rows i hi hs h
    · exact frame (fun p hp => exec_same h fun hr => hi ⟨p, hp, hr⟩) hs

/-- A happening keeps a law when its function does. -/
theorem unlessHeld_keeps {P : State → Prop} {f : State → State} {s t : State} (hf : P s → P (f s)) (hP : P s) (h : unlessHeld f s = .next t) : P t := by
  unfold unlessHeld at h
  obtain rfl : (if s.resetPin then s else f s) = t := by simpa using h
  split
  · exact hP
  · exact hf hP

/-- A command row keeps a law that does not speak of the links when its owner does. -/
theorem commandRow_keeps {P : State → Prop} (hlinks : ∀ {s : State} (k : PerLink LinkState), P s → P { s with links := k }) {l : Link} {seq : Byte}
    {c : Command} {own : Owner} (hown : ∀ {u t : State} {body : ReplyBody} {after : AfterReply}, P u → own u = some (t, body, after) → P t)
    {s t : State} (hP : P s) (h : unlessHeld (commandRow l seq c own) s = .next t) : P t := by
  refine unlessHeld_keeps (fun hP => ?_) hP h
  obtain ⟨k, hk⟩ | ⟨k, t, body, a, k', ht, hk⟩ := commandRow_cases s l seq c own
  · exact hk ▸ hlinks k hP
  · exact hk ▸ hlinks k' (hown (hlinks k hP) ht)

end Sys2Proof.Machine
end

section
/-! SUPPORT. The machine itself: a step, the empty queue, the reset pin, and the part right after a hard reset, which meets every law. -/

-- One theorem at a time: the proofs of so long a text would each hold a thread.
set_option Elab.async false

namespace Sys2Proof.Machine

/-- Settles O1: a step reads the queue's front and nothing else of it. -/
theorem stepRunsTheFrontCommand : Obligations.StepRunsTheFrontCommand := by
  unfold Obligations.StepRunsTheFrontCommand
  intro c rest s
  rfl

/-- The time of an OPEN session goes on by one ms (log 2). -/
theorem millisecond_links {s : State} (h : s.resetPin = false) : ∃ k, millisecond s = { s with links := k } ∧ ∀ l, k.get l =
    if (s.links.get l).session.isSome then { s.links.get l with sinceGood := (s.links.get l).sinceGood + 1 } else s.links.get l := by
  refine ⟨_, by rw [millisecond, if_neg (by simp [h])]; rfl, fun l => ?_⟩
  cases l <;> rfl

/-- Settles O2. -/
theorem emptyQueueIsOneMillisecond : Obligations.EmptyQueueIsOneMillisecond := by
  unfold Obligations.EmptyQueueIsOneMillisecond
  intro s hq
  have hstep : step s = .next (millisecond s) := by rw [step, hq]
  rw [hstep]
  refine ⟨fun hpin => by rw [millisecond, if_pos hpin], fun hpin => ?_⟩
  obtain ⟨k, hk, hl⟩ := millisecond_links hpin
  exact ⟨k, by rw [hk], hl⟩

/-- Settles O3: no row reaches the queue. -/
theorem everyCommandGoesOn : Obligations.EveryCommandGoesOn := by
  unfold Obligations.EveryCommandGoesOn
  intro i s
  obtain ⟨t, ht, ha⟩ := exec_agrees i s
  exact ⟨t, ht, ha .pending (by cases i <;> simp [reach])⟩

/-- While the pin is asserted a happening leaves the state as it is (R163). -/
theorem unlessHeld_held {f : State → State} {s : State} (h : s.resetPin = true) : unlessHeld f s = .next s := by
  rw [unlessHeld, if_pos h]

/-- Settles O4: every row but the two of the pin stands behind `unlessHeld`. -/
theorem resetPinHoldsThePart : Obligations.ResetPinHoldsThePart := by
  unfold Obligations.ResetPinHoldsThePart
  refine ⟨fun i s hpin hhard hassert => ?_, fun s => ⟨rfl, rfl⟩⟩
  cases i with
  | hardReset => exact absurd rfl hhard
  | resetPinAsserted => exact absurd rfl hassert
  | gapTimeout l => exact unlessHeld_held (f := fun s => s.modLink l _) hpin
  | characterFramingError l => exact unlessHeld_held (f := fun s => s.modLink l _) hpin
  | characterReceived l => exact unlessHeld_held (f := fun s => s.modLink l _) hpin
  | lineStartBit => exact unlessHeld_held (f := fun s => s.modTrig _) hpin
  | _ => exact unlessHeld_held hpin

/-! ## The part right after a hard reset -/

theorem Profile.default_lawful (p : Fin 4) : ProfileLaw (Profile.default p) := by
  unfold Profile.default
  split <;> exact ⟨by decide, by decide, by decide, by decide⟩

theorem Items.default_lawful : ItemsLaw Items.default where
  period := by decide
  lag := by decide
  holdoff := by decide
  width := by decide
  loss := by decide
  back := by decide
  timeout := by decide
  windows i := by simp [Items.default]
  profiles p := by simpa [Items.default] using Profile.default_lawful p

theorem Channel.reset_lawful (r : ChannelRecord) {p : Profile} (h : ProfileLaw p) : ChannelLaw (Channel.reset r p) where
  profile := h
  debounce := h.debounce.1
  window := by simp [Channel.reset]
  quiet := rfl
  countdown := by simp [Channel.reset]
  held := fun _ => ⟨rfl, rfl⟩

theorem Monitor.reset_lawful : MonitorLaw Monitor.reset := ⟨by decide, by decide⟩

theorem Conditioner.reset_lawful {x : Items} (h : ItemsLaw x) : CondLaw (Conditioner.reset x) where
  channels i := by
    simp only [Conditioner.reset, Fin.getElem_fin, Vector.getElem_ofFn]
    exact Channel.reset_lawful _ (h.profiles _)
  monitors g := by simpa [Conditioner.reset] using Monitor.reset_lawful
  first _ i := by simp [Conditioner.reset, Channel.reset]

theorem Timebase.reset_lawful : TimeLaw Timebase.reset where
  tick := by decide
  runStart := by simp [Timebase.reset]
  limit := by simp [Timebase.reset, Config.tickMax]
  period := by decide
  epoch := by decide

/-- A ring with no rows and no sample on its way is lawful where no run has begun. -/
theorem ringLaw_of_unstarted {t : Timebase} (hs : t.runStart = none) (hr : t.running = false) : RingLaw t [] [] where
  size := by decide
  oneWaits := by decide
  consecutive := trivial
  inRun := by simp [hs]
  begins := by simp [hs]
  unstarted _ := ⟨hr, rfl⟩

theorem TriggerUnit.reset_lawful : AlertLaw TriggerUnit.reset := ⟨by decide, by decide, by decide⟩

theorem SlotTable.reset_lawful : SlotLaw SlotTable.reset where
  accepted i := by simp [SlotTable.reset]
  acceptedOnce := List.nodup_nil
  queued i := by simp [SlotTable.reset, SlotTable.isQueued]
  queuedOnce := List.nodup_nil
  serialRange i c h := by simp [SlotTable.reset] at h
  serialOnce i j c d h := by simp [SlotTable.reset] at h
  nextSerial := by decide

theorem Journal.reset_lawful : JournalLaw Journal.reset where
  size := by decide
  next := by decide
  consecutive := trivial
  seqs := by simp [Journal.reset]
  loss := by decide
  lost := ⟨rfl, rfl⟩
  full := by simp [Journal.reset]
  subscribers l x h := by cases l <;> simp [Journal.reset, PerLink.get] at h

theorem FaultLog.reset_lawful : FaultLaw FaultLog.reset where
  size := by decide
  consecutive := trivial
  seqs := by simp [FaultLog.reset]
  next := by decide
  lost := ⟨by decide, fun _ => rfl⟩

theorem LinkState.reset_lawful : LinkLaw LinkState.reset := by
  constructor <;> simp [LinkState.reset, Notices.isEmpty, Notices.empty]

/-- A part whose blocks are all free and whose slots are all EMPTY is lawful: the blocks are on the free list. -/
theorem poolLaw_of_fresh {s : State} (hp : s.pool = List.range 128) (ht : s.table = SlotTable.reset) (he : s.engines = { x0 := .idle, x1 := .idle })
    (hw : s.wires = Wires.empty) : PoolLaw s := by
  refine ⟨?_, fun i c h => ?_, ?_, ?_⟩
  · have hslots : (List.finRange 8).flatMap SlotTable.reset.blocksOf = [] := by
      simp [SlotTable.blocksOf, SlotTable.reset]
    simp [State.allBlocks, hp, ht, he, hw, hslots, EngineState.blocks, blocksGranted, Wires.empty]
  · simp [State.slot, ht, SlotTable.reset] at h
  · simp [he, EngineLaw]
  · simp [he, EngineLaw]

theorem claimLaw_of_fresh {s : State} (ht : s.table = SlotTable.reset) : ClaimLaw s := by
  constructor <;> (intro i c _ h; simp [State.slot, ht, SlotTable.reset] at h)

theorem State.reset_readouts_lawful (l : Link) : ReadoutLaw (State.reset.readouts.get l) := by
  cases l <;> simp [State.reset, PerLink.get, ReadoutLaw, Readout.reset]

/-- Settles O5: block by block. -/
theorem resetMeetsEveryLaw : Obligations.ResetMeetsEveryLaw := by
  unfold Obligations.ResetMeetsEveryLaw
  refine ⟨Items.default_lawful, Conditioner.reset_lawful Items.default_lawful, trivial, Timebase.reset_lawful, ringLaw_of_unstarted rfl rfl,
    TriggerUnit.reset_lawful, SlotTable.reset_lawful, poolLaw_of_fresh rfl rfl rfl rfl, State.reset_readouts_lawful, claimLaw_of_fresh rfl,
    Journal.reset_lawful, FaultLog.reset_lawful, fun l => ?links⟩
  case links => cases l <;> exact LinkState.reset_lawful

end Sys2Proof.Machine
end

section
/-! SUPPORT. Fields on the line (R179, R180): bytes and the numbers they carry, in both directions, and lists of fields laid out one after the
other. -/

-- One theorem at a time: the proofs of so long a text would each hold a thread.
set_option Elab.async false

namespace Sys2Proof.Machine

/-! ## Bytes and numbers -/

@[simp] theorem fieldOf_nil : fieldOf [] = 0 := rfl

theorem fieldOf_cons (b : Byte) (bs : List Byte) : fieldOf (b :: bs) = b.toNat + 256 * fieldOf bs := rfl

@[simp] theorem fieldOf_byte (b : Byte) : fieldOf [b] = b.toNat := by simp [fieldOf_cons]

@[simp] theorem leBytes_length (k n : Nat) : (leBytes k n).length = k := by
  induction k generalizing n with
  | zero => rfl
  | succ k ih => simp [leBytes, ih]

theorem fieldOf_leBytes (k n : Nat) : fieldOf (leBytes k n) = n % 256 ^ k := by
  induction k generalizing n with
  | zero => simp [leBytes, Nat.mod_one]
  | succ k ih =>
    have hdiv : n % 256 ^ (k + 1) / 256 = n / 256 % 256 ^ k := by
      rw [pow_succ, mul_comm, Nat.mod_mul_right_div_self]
    have hmod : n % 256 ^ (k + 1) % 256 = n % 256 := Nat.mod_mod_of_dvd _ (dvd_pow_self _ (Nat.succ_ne_zero k))
    simp only [leBytes, fieldOf_cons, ih, BitVec.toNat_ofNat]
    omega

theorem fieldOf_lt (bs : List Byte) : fieldOf bs < 256 ^ bs.length := by
  induction bs with
  | nil => simp
  | cons b bs ih =>
    have hb := b.isLt
    simp only [fieldOf_cons, List.length_cons, pow_succ]
    omega

theorem fieldOf_byte_le (b : Byte) : fieldOf [b] ≤ 255 := by
  have h := fieldOf_lt [b]
  rw [List.length_singleton] at h
  omega

theorem fieldOf_pair_le (a b : Byte) : fieldOf [a, b] ≤ 65535 := by
  have h := fieldOf_lt [a, b]
  simp only [List.length_cons, List.length_nil] at h
  omega

/-- Bytes are read back from the number they carry. -/
theorem leBytes_fieldOf (bs : List Byte) : leBytes bs.length (fieldOf bs) = bs := by
  induction bs with
  | nil => rfl
  | cons b bs ih =>
    have hb := b.isLt
    have hlow : BitVec.ofNat 8 (b.toNat + 256 * fieldOf bs) = b := by
      apply BitVec.eq_of_toNat_eq
      simp only [BitVec.toNat_ofNat]
      omega
    have hhigh : (b.toNat + 256 * fieldOf bs) / 256 = fieldOf bs := by omega
    simp only [List.length_cons, leBytes, fieldOf_cons, hlow, hhigh, ih]

theorem fieldOf_injective {bs cs : List Byte} (hl : bs.length = cs.length) (h : fieldOf bs = fieldOf cs) : bs = cs := by
  rw [← leBytes_fieldOf bs, ← leBytes_fieldOf cs, hl, h]

/-- The bytes of a field from the number they carry. -/
theorem leBytes_of_fieldOf {k n : Nat} {bs : List Byte} (hl : bs.length = k) (hn : n = fieldOf bs) : leBytes k n = bs := by
  rw [← hl, hn, leBytes_fieldOf]

@[simp] theorem leBytes_byte (b : Byte) : leBytes 1 b.toNat = [b] := leBytes_of_fieldOf rfl (fieldOf_byte b).symm

@[simp] theorem leBytes_pair (a b : Byte) : leBytes 2 (fieldOf [a, b]) = [a, b] := leBytes_of_fieldOf rfl rfl

theorem append_toNat {m n : Nat} (x : BitVec m) (y : BitVec n) : (x ++ y).toNat = x.toNat * 2 ^ n + y.toNat := by
  rw [BitVec.toNat_append, ← Nat.shiftLeft_add_eq_or_of_lt y.isLt, Nat.shiftLeft_eq]

theorem u16_toNat (b0 b1 : Byte) : (u16 b0 b1).toNat = fieldOf [b0, b1] := by
  simp only [u16, append_toNat, fieldOf_cons, fieldOf_nil]
  omega

theorem u32_toNat (b0 b1 b2 b3 : Byte) : (u32 b0 b1 b2 b3).toNat = fieldOf [b0, b1, b2, b3] := by
  simp only [u32, append_toNat, fieldOf_cons, fieldOf_nil]
  omega

/-! ## Fields one after the other -/

theorem laidOut_append {fs gs : List (Nat × Int)} {bs cs : List Byte} (h : laidOut fs bs) (h' : laidOut gs cs) : laidOut (fs ++ gs) (bs ++ cs) := by
  induction fs generalizing bs with
  | nil =>
    obtain rfl : bs = [] := h
    exact h'
  | cons f fs ih =>
    obtain ⟨hsize, hnum, hrest⟩ := h
    refine ⟨by rw [List.length_append]; omega, ?_, ?_⟩
    · rwa [List.take_append_of_le_length hsize]
    · rw [List.drop_append_of_le_length hsize]
      exact ih hrest

@[simp] theorem laidOut_nil : laidOut [] [] := rfl

/-- A field whose bytes carry its number. -/
theorem laidOut_field {k : Nat} {n : Int} {bs : List Byte} (hl : bs.length = k) (hn : (fieldOf bs : Int) = n % 256 ^ k) : laidOut [num k n] bs :=
  ⟨hl.ge, by rwa [List.take_of_length_le hl.le], List.drop_eq_nil_of_le hl.le⟩

/-- A field and the fields after it. -/
theorem laidOut_cons {k : Nat} {n : Int} {bs cs : List Byte} {fs : List (Nat × Int)} (h : laidOut [num k n] bs) (h' : laidOut fs cs) :
    laidOut (num k n :: fs) (bs ++ cs) := laidOut_append h h'

theorem laidOut_leBytes {k n : Nat} {m : Int} (h : m % 256 ^ k = n % 256 ^ k) : laidOut [num k m] (leBytes k n) :=
  laidOut_field (leBytes_length k n) (by rw [fieldOf_leBytes, h]; push_cast; rfl)

/-- An unsigned field. -/
theorem laidOut_unsigned (k n : Nat) : laidOut [num k n] (leBytes k n) := laidOut_leBytes rfl

/-- A field in two's complement. -/
theorem laidOut_signed (k : Nat) (i : Int) : laidOut [num k i] (leSigned k i) := by
  refine laidOut_leBytes ?_
  have h0 : 0 ≤ i % ((256 ^ k : Nat) : Int) := Int.emod_nonneg _ (by positivity)
  rw [Int.toNat_of_nonneg h0]
  push_cast
  rw [Int.emod_emod_of_dvd _ dvd_rfl]

/-- One byte as it stands. -/
theorem laidOut_byte {n : Int} {b : Byte} (h : n = b.toNat) : laidOut [num 1 n] [b] := by
  refine laidOut_field rfl ?_
  have hb := b.isLt
  simp only [fieldOf_cons, fieldOf_nil, h]
  omega

theorem laidOut_bytes (bs : List Byte) : laidOut (byteFields bs) bs := by
  induction bs with
  | nil => rfl
  | cons b bs ih => exact laidOut_cons (laidOut_byte rfl) ih

/-- Like parts one after the other. -/
theorem laidOut_flatMap {α : Type} {f : α → List (Nat × Int)} {g : α → List Byte} (h : ∀ x, laidOut (f x) (g x)) (xs : List α) :
    laidOut (xs.flatMap f) (xs.flatMap g) := by
  induction xs with
  | nil => rfl
  | cons x xs ih => exact laidOut_append (h x) ih

theorem laidOut_map {α : Type} {f : α → Nat × Int} {g : α → Byte} (h : ∀ x, laidOut [f x] [g x]) (xs : List α) :
    laidOut (xs.map f) (xs.map g) := by
  induction xs with
  | nil => rfl
  | cons x xs ih => exact laidOut_append (h x) ih

theorem laidOut_replicate {f : Nat × Int} {b : Byte} (h : laidOut [f] [b]) (n : Nat) : laidOut (List.replicate n f) (List.replicate n b) := by
  induction n with
  | zero => rfl
  | succ n ih => exact laidOut_append h ih

/-- Zero bytes are a field of the number 0. -/
theorem laidOut_zeros (k : Nat) : laidOut [num k 0] (List.replicate k 0#8) := by
  refine laidOut_field (List.length_replicate ..) ?_
  have : fieldOf (List.replicate k 0#8) = 0 := by
    induction k with
    | zero => rfl
    | succ k ih => simp [List.replicate_succ, fieldOf_cons, ih]
  simp [this]

theorem laidOut_yesNo (b : Bool) : laidOut [num 1 (bit b)] (yesNo b) := by cases b <;> exact laidOut_byte rfl

theorem laidOut_optTick (t : Option Nat) : laidOut (tickFields t) (optTick t) := by
  cases t with
  | none => exact laidOut_cons (laidOut_unsigned 1 0) (laidOut_unsigned 5 0)
  | some t => exact laidOut_cons (laidOut_byte rfl) (laidOut_unsigned 5 t)

theorem laidOut_bitmap (b : Bitmap) : laidOut [num 6 b.toNat] (bitmapBytes b) := laidOut_unsigned 6 _

end Sys2Proof.Machine
end

section
/-! SUPPORT. The values that items take (R155, Table 11-9): each item's form once, the value read back from it, and the range it lies in. -/

-- One theorem at a time: the proofs of so long a text would each hold a thread.
set_option Elab.async false

namespace Sys2Proof.Machine

/-! ## Values read -/

theorem readYesNo_eq_some {b : Byte} {v : Bool} : readYesNo b = some v ↔ fieldOf [b] ≤ 1 ∧ v = (fieldOf [b] == 1) := by
  unfold readYesNo
  by_cases h0 : b = 0#8
  · subst h0; simp [eq_comm]
  · by_cases h1 : b = 1#8
    · subst h1; simp [eq_comm]
    · have n0 : b.toNat ≠ 0 := fun h => h0 (BitVec.eq_of_toNat_eq h)
      have n1 : b.toNat ≠ 1 := fun h => h1 (BitVec.eq_of_toNat_eq h)
      simp only [if_neg h0, if_neg h1, fieldOf_byte]
      constructor
      · intro h; simp at h
      · intro h; omega

theorem yesNo_of_readYesNo {b : Byte} {v : Bool} (h : readYesNo b = some v) : yesNo v = [b] := by
  unfold readYesNo at h
  split at h
  · rename_i h0; obtain rfl := Option.some.inj h; simp [yesNo, h0]
  · split at h
    · rename_i h1; obtain rfl := Option.some.inj h; simp [yesNo, h1]
    · simp at h

theorem Rate.ofBaud_eq_some {n : Nat} {r : Rate} : Rate.ofBaud n = some r ↔ r.baud = n := by
  constructor
  · intro h
    simpa using List.find?_some h
  · rintro rfl
    cases r <;> rfl

theorem baudOf_eq (r : Rate) : baudOf r = r.baud := by cases r <;> rfl

/-! ## The form of each item -/

/-- The channel record whose five settings a byte carries (R1, Table 11-9). -/
def channelOf (b : Byte) (p : Fin 4) : ChannelRecord where
  enabled := b.getLsbD 0
  invert := b.getLsbD 1
  profile := p
  journal := b.getLsbD 2
  alert := b.getLsbD 3
  auto := b.getLsbD 4

/-- The profile whose four settings six bytes carry (R2, Table 11-9). -/
def Profile.ofBytes (d c w0 w1 q0 q1 : Byte) : Profile where
  debounce := fieldOf [d]
  chatterLimit := fieldOf [c]
  chatterWindow := fieldOf [w0, w1]
  chatterQuiet := fieldOf [q0, q1]

/-- What it means that an item takes a value: one form per configuration item (Table 11-9), with its range. -/
inductive Items.Takes (x : Items) : ItemId → List Byte → Items → Prop
  | tickPeriod (a b : Byte) : 100 ≤ fieldOf [a, b] → fieldOf [a, b] ≤ 10000 → Takes x .tickPeriod [a, b] { x with tickPeriod := fieldOf [a, b] }
  | lineEnable (b : Byte) (v : Bool) : readYesNo b = some v → Takes x .lineEnable [b] { x with lineEnable := v }
  | lineLag (b : Byte) : Takes x .lineLag [b] { x with lineLag := fieldOf [b] }
  | autoSlots (b : Byte) : Takes x .autoSlots [b] { x with autoSlots := b }
  | autoHoldoff (a b : Byte) : Takes x .autoHoldoff [a, b] { x with autoHoldoff := fieldOf [a, b] }
  | alertWidth (b : Byte) : 1 ≤ fieldOf [b] → Takes x .alertWidth [b] { x with alertWidth := fieldOf [b] }
  | supplyMonitor (b : Byte) : fieldOf [b] < 64 → Takes x .supplyMonitor [b] { x with supplyMonitor := BitVec.ofNat 6 (fieldOf [b]) }
  | supplyLossTicks (b : Byte) : 1 ≤ fieldOf [b] → Takes x .supplyLossTicks [b] { x with supplyLossTicks := fieldOf [b] }
  | supplyReturnTicks (a b : Byte) : 1 ≤ fieldOf [a, b] → Takes x .supplyReturnTicks [a, b] { x with supplyReturnTicks := fieldOf [a, b] }
  | sessionTimeout (a b : Byte) : fieldOf [a, b] = 0 ∨ (100 ≤ fieldOf [a, b] ∧ fieldOf [a, b] ≤ 60000) →
      Takes x .sessionTimeout [a, b] { x with sessionTimeout := fieldOf [a, b] }
  | linkRate (l : Link) (a b c d : Byte) (r : Rate) : r.baud = fieldOf [a, b, c, d] → Takes x (.linkRate l) [a, b, c, d] (x.setRate l r)
  | epochLabel (b0 b1 b2 b3 b4 b5 b6 b7 : Byte) :
      Takes x .epochLabel [b0, b1, b2, b3, b4, b5, b6, b7] { x with epochLabel := #v[b0, b1, b2, b3, b4, b5, b6, b7] }
  | slotWindow (i : Fin 8) (a b c d : Byte) : fieldOf [a, b] ≤ 2047 → fieldOf [c, d] ≤ 2047 →
      Takes x (.slotWindow i) [a, b, c, d] { x with windows := x.windows.set i { pre := fieldOf [a, b], post := fieldOf [c, d] } }
  | profile (p : Fin 4) (d c w0 w1 q0 q1 : Byte) (v : Profile) : v = Profile.ofBytes d c w0 w1 q0 q1 →
      1 ≤ v.debounce → v.debounce ≤ 15 → v.chatterLimit ≠ 1 → 1 ≤ v.chatterWindow → 1 ≤ v.chatterQuiet →
      Takes x (.profile p) [d, c, w0, w1, q0, q1] { x with profiles := x.profiles.set p v }
  | channel (c : Fin 48) (b0 b1 : Byte) (p : Fin 4) : b0.toNat < 32 → p.val = b1.toNat →
      Takes x (.channel c) [b0, b1] { x with channels := x.channels.set c (channelOf b0 p) }

section
variable {x y : Items}

theorem onlyIf_eq_some {α : Type} {p : Bool} {a b : α} : onlyIf p a = some b ↔ p = true ∧ a = b := by
  cases p <;> simp [onlyIf]

theorem Items.writeByte_iff {b : Byte} {id : ItemId} : x.writeByte b id = some y ↔ x.Takes id [b] y := by
  have hb := b.isLt
  constructor
  · intro h
    cases id <;> simp only [Items.writeByte, onlyIf_eq_some, Option.map_eq_some_iff, Option.some.injEq, reduceCtorEq, inRange, Bool.and_eq_true,
      decide_eq_true_eq] at h
    case lineEnable => obtain ⟨v, hv, rfl⟩ := h; exact .lineEnable b v hv
    case lineLag => exact h ▸ .lineLag b
    case autoSlots => exact h ▸ .autoSlots b
    case alertWidth => obtain ⟨hr, rfl⟩ := h; exact .alertWidth b (by simpa using hr.1)
    case supplyMonitor =>
      obtain ⟨hr, rfl⟩ := h
      have hn : b.setWidth 6 = BitVec.ofNat 6 (fieldOf [b]) := by simp
      exact hn ▸ .supplyMonitor b (by simpa using hr)
    case supplyLossTicks => obtain ⟨hr, rfl⟩ := h; exact .supplyLossTicks b (by simpa using hr.1)
  · intro h
    cases h <;> simp_all [Items.writeByte, onlyIf, inRange]
    all_goals omega

theorem Items.writePair_iff {a b : Byte} {id : ItemId} : x.writePair a b id = some y ↔ x.Takes id [a, b] y := by
  have ha := a.isLt
  have hb := b.isLt
  constructor
  · intro h
    cases id <;> simp only [Items.writePair, onlyIf_eq_some, Option.map_eq_some_iff, Option.some.injEq, reduceCtorEq, inRange, Bool.and_eq_true,
      Bool.or_eq_true, beq_iff_eq, decide_eq_true_eq, u16_toNat] at h
    case tickPeriod => obtain ⟨⟨h1, h2⟩, rfl⟩ := h; exact .tickPeriod a b h1 h2
    case autoHoldoff => exact h ▸ .autoHoldoff a b
    case supplyReturnTicks => obtain ⟨⟨h1, -⟩, rfl⟩ := h; exact .supplyReturnTicks a b h1
    case sessionTimeout => obtain ⟨hr, rfl⟩ := h; exact .sessionTimeout a b hr
    case channel c =>
      obtain ⟨r, hr, rfl⟩ := h
      unfold readChannel at hr
      split at hr
      · rename_i hin
        obtain rfl := Option.some.inj hr
        exact .channel c a b ⟨b.toNat, hin.2⟩ hin.1 rfl
      · simp at hr
  · intro h
    cases h with
    | tickPeriod _ _ h1 h2 => simp only [Items.writePair, onlyIf_eq_some, inRange, u16_toNat]; simp [h1, h2]
    | autoHoldoff => simp only [Items.writePair, u16_toNat]
    | supplyReturnTicks _ _ h1 =>
      have h2 := fieldOf_lt [a, b]
      simp only [Items.writePair, onlyIf_eq_some, inRange, u16_toNat]
      simpa [h1] using Nat.le_of_lt_succ h2
    | sessionTimeout _ _ hr => simp only [Items.writePair, onlyIf_eq_some, inRange, u16_toNat]; simpa using hr
    | channel c _ _ p h1 h2 =>
      have hp : b.toNat < 4 := h2 ▸ p.isLt
      obtain rfl : p = ⟨b.toNat, hp⟩ := Fin.ext h2
      simp [Items.writePair, readChannel, h1, hp, channelOf]

theorem Items.writeFour_iff {a b c d : Byte} {id : ItemId} : x.writeFour a b c d id = some y ↔ x.Takes id [a, b, c, d] y := by
  constructor
  · intro h
    cases id <;> simp only [Items.writeFour, Option.map_eq_some_iff, reduceCtorEq, u32_toNat] at h
    case linkRate l => obtain ⟨r, hr, rfl⟩ := h; exact .linkRate l a b c d r (Rate.ofBaud_eq_some.1 hr)
    case slotWindow i =>
      obtain ⟨w, hw, rfl⟩ := h
      simp only [readWindow, u16_toNat] at hw
      split at hw
      · rename_i hin
        obtain rfl := Option.some.inj hw
        exact .slotWindow i a b c d hin.1 hin.2
      · simp at hw
  · intro h
    cases h with
    | linkRate l _ _ _ _ r hr => simp [Items.writeFour, u32_toNat, Rate.ofBaud_eq_some.2 hr]
    | slotWindow i _ _ _ _ h1 h2 => simp only [Items.writeFour, readWindow, u16_toNat, h1, h2, and_self, if_true, Option.map_some]

/-- R155 check 4, item by item. -/
theorem Items.write_iff {id : ItemId} {v : List Byte} : x.write id v = some y ↔ x.Takes id v y := by
  unfold Items.write
  split
  · exact Items.writeByte_iff
  · exact Items.writePair_iff
  · exact Items.writeFour_iff
  · rename_i d c w0 w1 q0 q1
    constructor
    · intro h
      split at h
      · rename_i p
        simp only [readProfile, Profile.fits, inRange, Option.map_eq_some_iff, Option.ite_none_right_eq_some, Bool.and_eq_true, decide_eq_true_eq,
          bne_iff_ne, Option.some.injEq, u16_toNat] at h
        obtain ⟨w, ⟨⟨⟨⟨⟨h1, h2⟩, h3⟩, h4⟩, h5⟩, rfl⟩, rfl⟩ := h
        exact .profile p d c w0 w1 q0 q1 _ (by simp [Profile.ofBytes]) h1 h2 h3 h4 h5
      · simp at h
    · intro h
      cases h with
      | profile p _ _ _ _ _ _ w hw h1 h2 h3 h4 h5 =>
        subst hw
        simp only [Profile.ofBytes, fieldOf_byte] at h1 h2 h3 h4 h5 ⊢
        simp [readProfile, Profile.fits, inRange, u16_toNat, h1, h2, h3, h4, h5]
  · rename_i b0 b1 b2 b3 b4 b5 b6 b7
    constructor
    · intro h
      split at h
      · obtain rfl := Option.some.inj h
        exact .epochLabel ..
      · simp at h
    · intro h
      cases h
      rfl
  · rename_i hne1 hne2 hne4 hne6 hne8
    constructor
    · intro h; simp at h
    · intro h
      cases h
      all_goals first | exact (hne1 _ rfl).elim | exact (hne2 _ _ rfl).elim | exact (hne4 _ _ _ _ rfl).elim | exact (hne6 _ _ _ _ _ _ rfl).elim
                      | exact (hne8 _ _ _ _ _ _ _ _ rfl).elim

/-! ## What an item takes is in range, and read back -/

theorem Items.Takes.writable {id : ItemId} {v : List Byte} (h : x.Takes id v y) : id.writable = true := by cases h <;> rfl

theorem Items.Takes.length {id : ItemId} {v : List Byte} (h : x.Takes id v y) : v.length = id.size := by cases h <;> rfl

/-- The five settings of a channel record's first byte, put together again. -/
theorem channelBits (b : Byte) (h : b.toNat < 32) :
    (if b.getLsbD 0 then 1 else 0) + (if b.getLsbD 1 then 2 else 0) + (if b.getLsbD 2 then 4 else 0) + (if b.getLsbD 3 then 8 else 0)
      + (if b.getLsbD 4 then 16 else 0) = b.toNat := by
  have key : ∀ n < 32, (if n.testBit 0 then 1 else 0) + (if n.testBit 1 then 2 else 0) + (if n.testBit 2 then 4 else 0)
      + (if n.testBit 3 then 8 else 0) + (if n.testBit 4 then 16 else 0) = n := by decide
  exact key _ h

/-- R155: the value taken is read back byte for byte. -/
theorem Items.Takes.value {id : ItemId} {v : List Byte} (h : x.Takes id v y) : y.value id = v := by
  cases h with
  | tickPeriod | lineLag | autoHoldoff | alertWidth | supplyLossTicks | supplyReturnTicks | sessionTimeout => exact leBytes_of_fieldOf rfl rfl
  | lineEnable _ _ h => exact yesNo_of_readYesNo h
  | autoSlots | epochLabel => rfl
  | supplyMonitor b h =>
    refine leBytes_of_fieldOf rfl ?_
    simpa [BitVec.toNat_ofNat] using h
  | linkRate l _ _ _ _ r h => cases l <;> exact leBytes_of_fieldOf rfl h
  | slotWindow i a b c d =>
    simp [Items.value, Window.bytes]
  | profile p d c w0 w1 q0 q1 w hw =>
    subst hw
    simp [Items.value, Profile.bytes, Profile.ofBytes]
  | channel c b0 b1 p h hp =>
    have hbits := channelBits b0 h
    simp only [Items.value, ChannelRecord.bytes, channelOf, Fin.getElem_fin, Vector.getElem_set_self, hbits, hp, leBytes_byte]
    rfl

/-- R154: no other item changes. -/
theorem Items.Takes.others {id d : ItemId} {v : List Byte} (h : x.Takes id v y) (hd : d ≠ id) : y.value d = x.value d := by
  cases h with
  | linkRate l => cases l <;> cases d <;> first | rfl | (rename_i m; cases m <;> first | rfl | exact (hd rfl).elim)
  | slotWindow i | profile i | channel i =>
    cases d
    all_goals first
      | rfl
      | (rename_i j
         have hne : i.val ≠ j.val := fun e => hd (by rw [Fin.ext e])
         simp [Items.value, Vector.getElem_set_ne _ _ hne])
  | _ => cases d <;> first | rfl | exact (hd rfl).elim

/-! ## Fields within a value -/

theorem fieldOf_two (a b : Byte) : fieldOf [a, b] % 256 = a.toNat ∧ fieldOf [a, b] / 256 = b.toNat := by
  have ha := a.isLt
  simp only [fieldOf_cons, fieldOf_nil]
  omega

theorem fieldOf_pairs (a b c d : Byte) : fieldOf [a, b, c, d] % 65536 = fieldOf [a, b] ∧ fieldOf [a, b, c, d] / 65536 = fieldOf [c, d] := by
  have ha := a.isLt
  have hb := b.isLt
  simp only [fieldOf_cons, fieldOf_nil]
  omega

theorem fieldOf_profile (d c w0 w1 q0 q1 : Byte) : fieldOf [d, c, w0, w1, q0, q1] % 256 = fieldOf [d] ∧
    fieldOf [d, c, w0, w1, q0, q1] / 256 % 256 = fieldOf [c] ∧ fieldOf [d, c, w0, w1, q0, q1] / 65536 % 65536 = fieldOf [w0, w1] ∧
    fieldOf [d, c, w0, w1, q0, q1] / 4294967296 = fieldOf [q0, q1] := by
  have hd := d.isLt
  have hc := c.isLt
  have hw0 := w0.isLt
  have hw1 := w1.isLt
  simp only [fieldOf_cons, fieldOf_nil]
  omega

/-- The settings of a channel record are bits of the number its two bytes carry. -/
theorem channelOf_eq (b0 b1 : Byte) (p : Fin 4) : channelOf b0 p =
    { enabled := (fieldOf [b0, b1]).testBit 0
      invert := (fieldOf [b0, b1]).testBit 1
      profile := p
      journal := (fieldOf [b0, b1]).testBit 2
      alert := (fieldOf [b0, b1]).testBit 3
      auto := (fieldOf [b0, b1]).testBit 4 } := by
  have bit {i : Nat} (hi : i < 8) : (fieldOf [b0, b1]).testBit i = b0.getLsbD i := by
    have := Nat.testBit_mod_two_pow (fieldOf [b0, b1]) 8 i
    rw [show (2 : Nat) ^ 8 = 256 from rfl, (fieldOf_two b0 b1).1] at this
    simpa [hi, BitVec.getLsbD] using this.symm
  simp only [channelOf, bit, Nat.reduceLT]

/-- R155: what the bytes carry, by the second reading of Table 11-9. -/
theorem Items.Takes.replaced {id : ItemId} {v : List Byte} (h : x.Takes id v y) : x.replaced y (fieldOf v) id := by
  cases h with
  | tickPeriod _ _ h1 h2 => exact ⟨h1, h2, rfl⟩
  | lineEnable b v h =>
    obtain ⟨h1, rfl⟩ := readYesNo_eq_some.1 h
    exact ⟨h1, rfl⟩
  | lineLag | autoHoldoff => rfl
  | autoSlots b => simp [Items.replaced]
  | alertWidth _ h | supplyMonitor _ h | supplyLossTicks _ h | supplyReturnTicks _ _ h | sessionTimeout _ _ h => exact ⟨h, rfl⟩
  | linkRate l _ _ _ _ r h => cases l <;> exact ⟨r, (baudOf_eq r).trans h, rfl⟩
  | epochLabel => exact ⟨rfl, rfl⟩
  | slotWindow i a b c d h1 h2 =>
    obtain ⟨hl, hh⟩ := fieldOf_pairs a b c d
    simpa only [Items.replaced, hl, hh, and_true] using ⟨h1, h2⟩
  | profile p d c w0 w1 q0 q1 w hw h1 h2 h3 h4 h5 =>
    obtain ⟨e1, e2, e3, e4⟩ := fieldOf_profile d c w0 w1 q0 q1
    simp only [Items.replaced, e1, e2, e3, e4]
    subst hw
    exact ⟨h1, h2, h3, h4, h5, rfl⟩
  | channel c b0 b1 p h hp =>
    obtain ⟨hl, hh⟩ := fieldOf_two b0 b1
    simp only [Items.replaced, hl, hh, channelOf_eq b0 b1]
    exact ⟨h, p, hp, rfl⟩

/-- A value of the item's length whose fields are in range is taken. -/
theorem Items.takes_of_replaced {id : ItemId} {v : List Byte} (hl : v.length = id.size) (h : x.replaced y (fieldOf v) id) : x.Takes id v y := by
  cases id with
  | lineEnable =>
    obtain ⟨b, rfl⟩ := List.length_eq_one_iff.1 hl
    obtain ⟨h1, rfl⟩ := h
    exact .lineEnable b _ (readYesNo_eq_some.2 ⟨h1, rfl⟩)
  | lineLag =>
    obtain ⟨b, rfl⟩ := List.length_eq_one_iff.1 hl
    exact h ▸ .lineLag b
  | autoSlots =>
    obtain ⟨b, rfl⟩ := List.length_eq_one_iff.1 hl
    rw [Items.replaced, fieldOf_byte, BitVec.ofNat_toNat, BitVec.setWidth_eq] at h
    exact h ▸ .autoSlots b
  | alertWidth =>
    obtain ⟨b, rfl⟩ := List.length_eq_one_iff.1 hl
    exact h.2 ▸ .alertWidth b h.1
  | supplyMonitor =>
    obtain ⟨b, rfl⟩ := List.length_eq_one_iff.1 hl
    exact h.2 ▸ .supplyMonitor b h.1
  | supplyLossTicks =>
    obtain ⟨b, rfl⟩ := List.length_eq_one_iff.1 hl
    exact h.2 ▸ .supplyLossTicks b h.1
  | tickPeriod =>
    obtain ⟨a, b, rfl⟩ := List.length_eq_two.1 hl
    obtain ⟨h1, h2, rfl⟩ := h
    exact .tickPeriod a b h1 h2
  | autoHoldoff =>
    obtain ⟨a, b, rfl⟩ := List.length_eq_two.1 hl
    exact h ▸ .autoHoldoff a b
  | supplyReturnTicks =>
    obtain ⟨a, b, rfl⟩ := List.length_eq_two.1 hl
    exact h.2 ▸ .supplyReturnTicks a b h.1
  | sessionTimeout =>
    obtain ⟨a, b, rfl⟩ := List.length_eq_two.1 hl
    exact h.2 ▸ .sessionTimeout a b h.1
  | channel c =>
    obtain ⟨b0, b1, rfl⟩ := List.length_eq_two.1 hl
    obtain ⟨hl, hh⟩ := fieldOf_two b0 b1
    obtain ⟨h1, p, hp, rfl⟩ := h
    rw [hl] at h1
    rw [hh] at hp
    exact channelOf_eq b0 b1 p ▸ .channel c b0 b1 p h1 hp
  | linkRate l =>
    match v, hl with
    | [a, b, c, d], _ => cases l <;> (obtain ⟨r, hr, rfl⟩ := h; exact .linkRate _ a b c d r ((baudOf_eq r).symm.trans hr))
  | slotWindow i =>
    match v, hl with
    | [a, b, c, d], _ =>
      obtain ⟨hl, hh⟩ := fieldOf_pairs a b c d
      obtain ⟨h1, h2, rfl⟩ := h
      rw [hl, hh] at *
      exact .slotWindow i a b c d h1 h2
  | profile p =>
    match v, hl with
    | [d, c, w0, w1, q0, q1], _ =>
      obtain ⟨e1, e2, e3, e4⟩ := fieldOf_profile d c w0 w1 q0 q1
      simp only [Items.replaced, e1, e2, e3, e4] at h
      obtain ⟨h1, h2, h3, h4, h5, rfl⟩ := h
      exact .profile p d c w0 w1 q0 q1 _ rfl h1 h2 h3 h4 h5
  | epochLabel =>
    match v, hl with
    | [b0, b1, b2, b3, b4, b5, b6, b7], _ =>
      have hn : fieldOf y.epochLabel.toList = fieldOf [b0, b1, b2, b3, b4, b5, b6, b7] := h.1
      have hy := h.2
      have hbytes : y.epochLabel.toList = [b0, b1, b2, b3, b4, b5, b6, b7] :=
        fieldOf_injective (bs := y.epochLabel.toList) (by rw [Vector.length_toList]; rfl) hn
      have hlabel : y.epochLabel = #v[b0, b1, b2, b3, b4, b5, b6, b7] := by
        apply Vector.toList_inj.1
        rw [hbytes]
        simp
      rw [hlabel] at hy
      exact hy ▸ .epochLabel ..
  | _ => exact h.elim

/-- A lawful item store stays lawful. -/
theorem Items.Takes.lawful {id : ItemId} {v : List Byte} (h : x.Takes id v y) (hx : ItemsLaw x) : ItemsLaw y := by
  cases h with
  | tickPeriod a b h1 h2 => exact { hx with period := ⟨h1, h2⟩ }
  | lineEnable | autoSlots | supplyMonitor | epochLabel | channel => exact { hx with }
  | lineLag b => exact { hx with lag := fieldOf_byte_le b }
  | autoHoldoff a b => exact { hx with holdoff := fieldOf_pair_le a b }
  | alertWidth b h => exact { hx with width := ⟨h, fieldOf_byte_le b⟩ }
  | supplyLossTicks b h => exact { hx with loss := ⟨h, fieldOf_byte_le b⟩ }
  | supplyReturnTicks a b h => exact { hx with back := ⟨h, fieldOf_pair_le a b⟩ }
  | sessionTimeout a b h => exact { hx with timeout := h }
  | linkRate l => cases l <;> exact { hx with }
  | slotWindow i a b c d h1 h2 =>
    refine { hx with windows := fun j => ?_ }
    by_cases hj : i.val = j.val
    · simp [hj, h1, h2]
    · simpa [Vector.getElem_set_ne _ _ hj] using hx.windows j
  | profile p d c w0 w1 q0 q1 w hw h1 h2 h3 h4 h5 =>
    refine { hx with profiles := fun j => ?_ }
    by_cases hj : p.val = j.val
    · have hlaw : ProfileLaw w := hw ▸ ⟨hw ▸ ⟨h1, h2⟩, ⟨hw ▸ h3, fieldOf_byte_le c⟩, ⟨hw ▸ h4, fieldOf_pair_le w0 w1⟩, ⟨hw ▸ h5, fieldOf_pair_le q0 q1⟩⟩
      simpa [hj] using hlaw
    · simpa [Vector.getElem_set_ne _ _ hj] using hx.profiles j

end

/-- Settles O17: what an item takes it reads back, alone, and it takes exactly what lies in its range. -/
theorem itemValuesReadBack : Obligations.ItemValuesReadBack := by
  unfold Obligations.ItemValuesReadBack
  constructor
  · intro x y id v h
    have taken := Items.write_iff.1 h
    exact ⟨taken.writable, taken.length, taken.value, fun d hd => taken.others hd⟩
  · intro x y id v hl
    exact Items.write_iff.trans ⟨fun h => h.replaced, Items.takes_of_replaced hl⟩

end Sys2Proof.Machine
end

section
/-! SUPPORT. Every step keeps the items, the channels, the supply monitors and the injector in their ranges: what a SET, a sample, a START, a TEST
and a reset make of them. -/

-- One theorem at a time: the proofs of so long a text would each hold a thread.
set_option Elab.async false

namespace Sys2Proof.Machine

/-! ## Items -/

theorem endSession_items (l : Link) (r : SessionEndReason) (s : State) : (endSession l r s).items = s.items := by
  obtain ⟨_, _, _, _, _, h⟩ := endSession_only s l r
  rw [h]

theorem afterSet_items (l : Link) (x : ItemId) (s : State) : (afterSet l x s).1.items = s.items := by
  unfold afterSet endIfOverdue
  repeat' split
  all_goals first | rfl | exact endSession_items _ _ _

/-- A SET stores the value it is given, or nothing. -/
theorem setOwner_items {l : Link} {id : BitVec 16} {v : List Byte} {s t : State} {body : ReplyBody} {after : AfterReply}
    (h : setOwner l id v s = some (t, body, after)) : t.items = s.items ∨ ∃ x, s.items.Takes x v t.items := by
  unfold setOwner at h
  split at h
  · obtain ⟨rfl, -, -⟩ := by simpa using h
    exact .inl rfl
  · rename_i x items hc
    obtain ⟨rfl, -, -⟩ := by simpa using h
    refine .inr ⟨x, ?_⟩
    rw [afterSet_items]
    unfold State.checkSet at hc
    repeat' split at hc
    all_goals simp at hc
    obtain ⟨rfl, rfl⟩ := hc
    rename_i hw _ _
    exact Items.write_iff.1 hw

theorem Items.afterReset_lawful {x : Items} (h : ItemsLaw x) (keep : Bool) : ItemsLaw (x.afterReset keep) := by
  unfold Items.afterReset
  split
  · exact h
  · exact { Items.default_lawful with timeout := h.timeout }

theorem exec_keeps_items {i : Instr} {s t : State} (hs : ItemsLaw s.items) (h : exec i s = .next t) : ItemsLaw t.items := by
  by_cases hi : Place.items ∈ reach i
  · cases i
    case set =>
      refine commandRow_keeps (P := fun s => ItemsLaw s.items) (fun _ h => h) (fun hu ho => ?_) hs h
      obtain e | ⟨x, hx⟩ := setOwner_items ho
      · exact e ▸ hu
      · exact hx.lawful hu
    case resetCarriedOut =>
      refine unlessHeld_keeps (P := fun s => ItemsLaw s.items) (fun hs => ?_) hs h
      unfold resetCarriedOut
      split
      · exact Items.afterReset_lawful hs _
      · exact hs
    case hardReset =>
      obtain rfl : hardReset s = t := by simpa [exec, execHardReset] using h
      exact Items.default_lawful
    all_goals simp [reach] at hi
  · have e : t.items = s.items := exec_same h hi
    rwa [e]

/-! ## One channel at one sample -/

section
variable {ch : Channel} {r : ChannelRecord} {p : Profile} {raw lost : Bool}

theorem Channel.pickUp_lawful (h : ChannelLaw ch) (hp : ProfileLaw p) (r : ChannelRecord) : ChannelLaw (ch.pickUp r p) := by
  by_cases ha : ch.affected r p = true
  · exact { profile := hp, debounce := by simpa [Channel.pickUp, ha] using (show 0 < p.debounce from hp.debounce.1), window := by simp [Channel.pickUp, ha]
            quiet := h.quiet, countdown := h.countdown, held := fun _ => by simp [Channel.pickUp, ha] }
  · have hsame : p = ch.profile := by
      simp only [Channel.affected, Bool.or_eq_true, bne_iff_ne, ne_eq, not_or, not_not] at ha
      exact ha.2
    subst hsame
    exact { profile := h.profile, debounce := by simpa [Channel.pickUp, ha] using h.debounce, window := by simpa [Channel.pickUp, ha] using h.window
            quiet := h.quiet, countdown := h.countdown, held := by simpa [Channel.pickUp, ha] using h.held }

theorem ageWindow_eq_some {w : Option ChatterWindow} {x : ChatterWindow} (h : ageWindow w = some x) :
    ∃ y, w = some y ∧ 1 < y.remaining ∧ x = { y with remaining := y.remaining - 1 } := by
  cases w with
  | none => simp [ageWindow] at h
  | some y =>
    simp only [ageWindow] at h
    split at h
    · simp at h
    · exact ⟨y, rfl, by omega, (Option.some.inj h).symm⟩

/-- An aged window stays in its ranges (R9). -/
theorem ageWindow_lawful (h : ChannelLaw ch) {w : ChatterWindow} (hw : ageWindow ch.window = some w) :
    1 ≤ w.remaining ∧ w.remaining ≤ ch.profile.chatterWindow ∧ 1 ≤ w.count ∧ w.count < ch.profile.chatterLimit := by
  obtain ⟨y, hy, hr, rfl⟩ := ageWindow_eq_some hw
  obtain ⟨h1, h2, h3, h4⟩ := h.window y hy
  exact ⟨by dsimp only; omega, by dsimp only; omega, h3, h4⟩

/-- A transition that does not bring the count to the limit leaves the window in its ranges (R9, R10). -/
theorem countTransition_lawful (h : ChannelLaw ch) {w : ChatterWindow} (hw : countTransition ch.profile (ageWindow ch.window) = some w)
    (hn : chatterReached ch.profile (countTransition ch.profile (ageWindow ch.window)) = false) :
    1 ≤ w.remaining ∧ w.remaining ≤ ch.profile.chatterWindow ∧ 1 ≤ w.count ∧ w.count < ch.profile.chatterLimit := by
  rw [hw] at hn
  have hlimit := h.profile.limit.1
  have hwin := h.profile.window.1
  simp only [chatterReached, decide_eq_false_iff_not] at hn
  unfold countTransition at hw
  split at hw
  · simp at hw
  · split at hw
    · obtain rfl := Option.some.inj hw
      dsimp only at hn ⊢
      omega
    · rename_i x hx
      obtain ⟨h1, h2, h3, h4⟩ := ageWindow_lawful h hx
      obtain rfl := Option.some.inj hw
      dsimp only at hn ⊢
      omega

theorem Channel.quiet_of_live (h : ChannelLaw ch) (hl : ch.holds.any = false) : ch.quiet = none := by
  have hq := h.quiet
  simp only [Holds.any, Bool.or_eq_false_iff] at hl
  rw [hl.1.1] at hq
  simpa using hq

theorem Channel.live_lawful (h : ChannelLaw ch) (hl : ch.holds.any = false) : ChannelLaw (ch.live raw).1 := by
  have hquiet := ch.quiet_of_live h hl
  have hdeb := h.debounce
  unfold Channel.live
  dsimp only
  split
  · exact { h with debounce := by dsimp only; omega, window := fun w hw => ageWindow_lawful h hw, held := by simp [hl] }
  · split
    · split
      · exact { profile := h.profile, debounce := by dsimp only; omega, window := by simp, quiet := rfl, held := by simp
                countdown := by simpa using h.profile.quiet }
      · rename_i hn
        exact { h with debounce := by dsimp only; omega, window := fun w hw => countTransition_lawful h hw (by simpa using hn), held := by simp [hl] }
    · rename_i hne hnd
      refine { h with debounce := ?_, window := fun w hw => ageWindow_lawful h hw, held := by simp [hl] }
      have : raw != ch.level := by simpa using hne
      simp only [Channel.debounceDone, this, Bool.true_and, decide_eq_true_eq] at hnd
      dsimp only
      omega

/-- CHATTER and its countdown come and go together (R11). -/
theorem Channel.quietStep_lawful (h : ChannelLaw ch) : (ch.quietStep raw).2.isSome = (ch.quietStep raw).1 ∧
    ∀ q, (ch.quietStep raw).2 = some q → 1 ≤ q ∧ q ≤ 65535 := by
  have hq := h.quiet
  unfold Channel.quietStep
  split
  · rename_i hc
    have : ch.holds.chatter = false := by simpa using hc
    exact ⟨by rw [hq, this], h.countdown⟩
  · split
    · simp
    · split
      · exact ⟨rfl, by simpa using h.profile.quiet⟩
      · split
        · simp
        · rename_i hg
          refine ⟨rfl, fun q hq => ?_⟩
          cases hqq : ch.quiet with
          | none => simp [hqq] at hg
          | some n =>
            have := h.countdown n hqq
            simp only [hqq, Option.getD_some, Option.some.injEq] at hg hq
            omega

theorem Channel.work_lawful (h : ChannelLaw ch) : ChannelLaw (ch.work raw lost).1 := by
  obtain ⟨hstep, hcount⟩ := Channel.quietStep_lawful (raw := raw) h
  have hpos : 0 < ch.profile.debounce := h.profile.debounce.1
  unfold Channel.work
  dsimp only
  split
  · rename_i hl
    exact ch.live_lawful h (by simp_all)
  · split
    · rename_i hl
      have hlive : ch.holds.any = false := by simpa using hl
      have hquiet := ch.quiet_of_live h hlive
      have hchatter : ch.holds.chatter = false := by simp_all [Holds.any]
      exact { h with debounce := hpos, window := by simp, held := by simp
                     quiet := by simp [hquiet, Channel.newHolds, Channel.quietStep, hchatter] }
    · rename_i hl
      have hheld := h.held (by simpa using hl)
      split
      · exact { h with quiet := hstep, countdown := hcount, held := fun _ => hheld }
      · rename_i hfree
        have : (ch.newHolds raw lost).chatter = false := by simp_all [Holds.any]
        exact { h with debounce := hpos, window := by simp, held := by simp, quiet := by simp [this], countdown := by simp }

theorem Channel.mark_lawful (h : ChannelLaw ch) (covered : Bool) : ChannelLaw (ch.mark raw covered) := { h with }

/-- One channel through a sample (R4). The first sample of a run finds no count, no window and no countdown (R22, R23). -/
theorem Channel.sample_lawful {pin : Bool} {injected : Option Bool} {first : Bool} (h : ChannelLaw ch) (hp : ProfileLaw p)
    (hfirst : first = true → ch.debounce = 0 ∧ ch.window = none ∧ ch.quiet = none) : ChannelLaw (ch.sample r p pin injected lost first).1 := by
  have hu := ch.pickUp_lawful h hp r
  unfold Channel.sample
  refine Channel.mark_lawful ?_ _
  split
  · rename_i hf
    obtain ⟨hd, hw, hq⟩ := hfirst hf
    have hd' : (ch.pickUp r p).debounce = 0 := by simp [Channel.pickUp, hd]
    have hw' : (ch.pickUp r p).window = none := by simp [Channel.pickUp, hw]
    have hq' : (ch.pickUp r p).quiet = none := hq
    exact { hu with held := fun _ => ⟨hd', hw'⟩, quiet := by simp [Channel.establish, hq'] }
  · exact Channel.work_lawful hu

end

/-! ## The conditioner -/

theorem Monitor.sample_lawful {m : Monitor} (h : MonitorLaw m) (monitored present : Bool) {loss back : Nat} (hl : loss ≤ 255) (hb : back ≤ 65535) :
    MonitorLaw (m.sample monitored present loss back).1 := by
  have ha := h.absent
  have hp := h.present
  unfold Monitor.sample
  repeat' split
  all_goals first | exact Monitor.reset_lawful | exact ⟨by dsimp [Monitor.reset]; omega, by dsimp [Monitor.reset]; omega⟩

theorem State.monitorSample_lawful {s : State} (hx : ItemsLaw s.items) (hc : CondLaw s.cond) (senses : GroupSet) (g : Fin 6) :
    MonitorLaw (s.monitorSample senses g).1 := by
  unfold State.monitorSample
  dsimp only
  split
  · exact hc.monitors g
  · exact Monitor.sample_lawful (hc.monitors g) _ _ hx.loss.2 hx.back.2

theorem State.sampledCond_lawful {s : State} (hx : ItemsLaw s.items) (hc : CondLaw s.cond) (pins : Bitmap) (senses : GroupSet) (tick : Nat) :
    CondLaw (s.sampledCond pins senses tick) where
  channels i := by
    simp only [State.sampledCond, Fin.getElem_fin, Vector.getElem_ofFn]
    exact Channel.sample_lawful (hc.channels i) (hx.profiles _) fun hf => hc.first hf i
  monitors g := by
    simp only [State.sampledCond, Fin.getElem_fin, Vector.getElem_ofFn]
    exact State.monitorSample_lawful hx hc senses g
  first h := by simp [State.sampledCond] at h

theorem makeSample_cond (pins : Bitmap) (senses : GroupSet) (s : State) : (makeSample pins senses s).cond =
    if s.samples then s.sampledCond pins senses (s.time.tick + 1) else s.cond := by
  unfold makeSample
  split <;> rfl

theorem Conditioner.atStart_lawful {c : Conditioner} (h : CondLaw c) : CondLaw c.atStart where
  channels i := by
    have hp := (h.channels i).profile
    simp only [Conditioner.atStart, Fin.getElem_fin, Vector.getElem_ofFn]
    exact { profile := hp, debounce := hp.debounce.1, window := by simp [Channel.atStart], quiet := rfl, countdown := by simp [Channel.atStart]
            held := fun _ => ⟨rfl, rfl⟩ }
  monitors g := by simpa [Conditioner.atStart] using Monitor.reset_lawful
  first _ i := by simp [Conditioner.atStart, Channel.atStart]

/-- A START leaves the conditioner as it was, or as R22 says. -/
theorem startOwner_cases {s t : State} {body : ReplyBody} {after : AfterReply} (h : startOwner s = some (t, body, after)) :
    t = s ∨ (t = acceptStart s ∧ s.time.running = false ∧ s.time.limitReached = false) := by
  unfold startOwner at h
  repeat' split at h
  all_goals obtain ⟨rfl, -, -⟩ := by simpa using h
  · exact .inl rfl
  · exact .inl rfl
  · exact .inl rfl
  · exact .inr ⟨rfl, by simp_all, by simp_all⟩

/-- A law that one sample keeps is kept by each of the rows that stand for a sample (log 6). -/
theorem sampleWhen_keeps {P : State → Prop} {s : State} (b : Bool) (pins : Bitmap) (senses : GroupSet) (h : P s → P (makeSample pins senses s)) (hs : P s) :
    P (sampleWhen b pins senses s) := by
  unfold sampleWhen
  split
  · exact h hs
  · exact hs

/-- A law that a carried-out DEVICE-RESET establishes is kept by its row. -/
theorem resetCarriedOut_keeps {P : State → Prop} {s : State} (h : ∀ keep, P s → P (s.afterReset keep)) (hs : P s) : P (resetCarriedOut s) := by
  unfold resetCarriedOut
  split
  · exact h _ hs
  · exact hs

theorem exec_hardReset {s t : State} (h : exec .hardReset s = .next t) : t = hardReset s := by
  simpa [exec, execHardReset, eq_comm] using h

theorem exec_keeps_cond {i : Instr} {s t : State} (hs : ItemsLaw s.items ∧ CondLaw s.cond) (h : exec i s = .next t) : CondLaw t.cond := by
  by_cases hi : Place.cond ∈ reach i
  · have sampled {s : State} (pins : Bitmap) (senses : GroupSet) (hs : ItemsLaw s.items ∧ CondLaw s.cond) :
        ItemsLaw (makeSample pins senses s).items ∧ CondLaw (makeSample pins senses s).cond := by
      obtain ⟨hx, hc⟩ := hs
      rw [makeSample_cond]
      refine ⟨?_, ?_⟩
      · obtain ⟨_, _, _, _, _, _, _, _, _, _, e⟩ := makeSample_only s pins senses
        rw [e]
        exact hx
      · split
        · exact s.sampledCond_lawful hx hc _ _ _
        · exact hc
    have kept : ItemsLaw t.items ∧ CondLaw t.cond := by
      cases i
      case sample p g => exact unlessHeld_keeps (P := fun s => ItemsLaw s.items ∧ CondLaw s.cond) (sampled p g) hs h
      case debounceComplete p g | chatterWindowExpiry p g | quietCountdownExpiry p g | supplyLost p g | supplyBack p g | testDelayExpiry p g |
          testPhaseExpiry p g =>
        exact unlessHeld_keeps (P := fun s => ItemsLaw s.items ∧ CondLaw s.cond)
          (sampleWhen_keeps (P := fun s => ItemsLaw s.items ∧ CondLaw s.cond) _ _ _ (sampled p g)) hs h
      case start =>
        refine commandRow_keeps (P := fun s => ItemsLaw s.items ∧ CondLaw s.cond) (fun _ h => h) (fun hu ho => ?_) hs h
        obtain rfl | ⟨rfl, -, -⟩ := startOwner_cases ho
        · exact hu
        · obtain ⟨a, b, e⟩ := ringTakeStart_only _
          exact ⟨by rw [acceptStart, e]; exact hu.1, Conditioner.atStart_lawful hu.2⟩
      case resetCarriedOut =>
        refine unlessHeld_keeps (P := fun s => ItemsLaw s.items ∧ CondLaw s.cond) (resetCarriedOut_keeps (P := fun s => ItemsLaw s.items ∧ CondLaw s.cond) fun keep hs => ?_) hs h
        have hx := Items.afterReset_lawful hs.1 keep
        exact ⟨hx, Conditioner.reset_lawful hx⟩
      case hardReset => exact exec_hardReset h ▸ ⟨Items.default_lawful, Conditioner.reset_lawful Items.default_lawful⟩
      all_goals simp [reach] at hi
    exact kept.2
  · have e : t.cond = s.cond := exec_same h hi
    rw [e]
    exact hs.2

/-! ## The injector -/

theorem Injector.advance_lawful {j : Injector} (h : InjectorLaw j) : InjectorLaw j.advance := by
  cases j with
  | idle => trivial
  | delay run remaining =>
    obtain ⟨hrun, h1, h2⟩ := h
    unfold Injector.advance
    dsimp only
    split
    · exact ⟨hrun, le_rfl, hrun.count.1, by simp, hrun.width.1, le_rfl⟩
    · exact ⟨hrun, by omega, by omega⟩
  | injecting run pulse high remaining =>
    obtain ⟨hrun, h1, h2, h3, h4, h5⟩ := h
    unfold Injector.advance
    dsimp only
    split
    · exact ⟨hrun, h1, h2, h3, by omega, by omega⟩
    · split
      · split
        · exact ⟨hrun, h1, h2, fun _ => by assumption, hrun.gap.1, le_rfl⟩
        · trivial
      · rename_i hlow
        have := h3 (by simpa using hlow)
        exact ⟨hrun, by omega, by omega, by simp, hrun.width.1, le_rfl⟩

/-- A TEST that is read lies in its ranges (R144 check 1). -/
theorem readTest_lawful {channels : Bitmap} {delay width gap trigDelay label : BitVec 16} {count slot : Byte} {f : TestFields}
    (h : readTest channels delay width gap count slot trigDelay label = some f) (s : State) (tr : Option (Fin 8 × Nat)) :
    RunLaw (s.testRun f tr) ∧ f.delay ≤ 65535 := by
  unfold readTest at h
  split at h
  · rename_i hc
    obtain ⟨named, -, rfl⟩ := Option.map_eq_some_iff.1 h
    simp only [pulseFits, Bool.and_eq_true, bne_iff_ne, ne_eq, decide_eq_true_eq] at hc
    obtain ⟨⟨⟨hch, hw⟩, hg⟩, hcount⟩ := hc
    have h0 : count.toNat ≠ 0 := fun e => hcount (BitVec.eq_of_toNat_eq e)
    have := count.isLt
    have := delay.isLt
    exact ⟨⟨hch, hw, hg, by dsimp [State.testRun]; omega⟩, by dsimp only; omega⟩
  · simp at h

theorem TestFields.begin_lawful {f : TestFields} {run : TestRun} (hrun : RunLaw run) (hd : f.delay ≤ 65535) : InjectorLaw (f.begin run) := by
  unfold TestFields.begin
  split
  · exact ⟨hrun, le_rfl, hrun.count.1, by simp, hrun.width.1, le_rfl⟩
  · exact ⟨hrun, by omega, hd⟩

theorem takeOffer_injector (o : Offer) (s : State) : (takeOffer o s).1.injector = s.injector := by
  obtain ⟨_, h⟩ := takeOffer_only s o
  rw [h]

theorem testOwner_lawful {channels : Bitmap} {delay width gap trigDelay label : BitVec 16} {count slot : Byte} {s t : State} {body : ReplyBody}
    {after : AfterReply} (hs : InjectorLaw s.injector)
    (h : testOwner channels delay width gap count slot trigDelay label s = some (t, body, after)) : InjectorLaw t.injector := by
  unfold testOwner at h
  split at h
  · obtain ⟨rfl, -, -⟩ := by simpa using h
    exact hs
  · rename_i f hf
    have begun (u : State) (tr : Option (Fin 8 × Nat)) : InjectorLaw (f.begin (u.testRun f tr)) :=
      let ⟨hrun, hd⟩ := readTest_lawful hf u tr
      TestFields.begin_lawful hrun hd
    split at h
    · obtain ⟨rfl, -, -⟩ := by simpa using h
      exact hs
    · split at h
      · obtain ⟨rfl, -, -⟩ := by simpa using h
        exact hs
      · simp only [Option.some.injEq, Prod.mk.injEq] at h
        obtain ⟨rfl, -, -⟩ := h
        split
        · exact begun _ _
        · rename_i i _
          have hinj := takeOffer_injector (testOffer f i) s
          unfold offerTest
          split
          · exact begun _ _
          · rename_i u code _ ho
            rw [ho] at hinj
            exact hinj ▸ hs

theorem exec_keeps_injector {i : Instr} {s t : State} (hs : InjectorLaw s.injector) (h : exec i s = .next t) : InjectorLaw t.injector := by
  by_cases hi : Place.injector ∈ reach i
  · have sampled {s : State} (pins : Bitmap) (senses : GroupSet) (hs : InjectorLaw s.injector) : InjectorLaw (makeSample pins senses s).injector := by
      unfold makeSample
      split
      · exact Injector.advance_lawful hs
      · exact hs
    cases i
    case sample p g => exact unlessHeld_keeps (P := fun s => InjectorLaw s.injector) (sampled p g) hs h
    case debounceComplete p g | chatterWindowExpiry p g | quietCountdownExpiry p g | supplyLost p g | supplyBack p g | testDelayExpiry p g |
        testPhaseExpiry p g =>
      exact unlessHeld_keeps (P := fun s => InjectorLaw s.injector) (sampleWhen_keeps (P := fun s => InjectorLaw s.injector) _ _ _ (sampled p g)) hs h
    case start =>
      refine commandRow_keeps (P := fun s => InjectorLaw s.injector) (fun _ h => h) (fun hu ho => ?_) hs h
      obtain rfl | ⟨rfl, -, -⟩ := startOwner_cases ho
      · exact hu
      · show InjectorLaw (if _ then _ else _)
        split
        · trivial
        · exact hu
    case test =>
      exact commandRow_keeps (P := fun s => InjectorLaw s.injector) (fun _ h => h) testOwner_lawful hs h
    case testCancel =>
      refine commandRow_keeps (P := fun s => InjectorLaw s.injector) (fun _ h => h) (fun hu ho => ?_) hs h
      obtain ⟨rfl, -, -⟩ := by simpa [testCancelOwner] using ho
      trivial
    case injectorTakeStop =>
      refine unlessHeld_keeps (P := fun s => InjectorLaw s.injector) (fun hs => ?_) hs h
      unfold injectorTakeStop
      split
      · trivial
      · exact hs
    case resetCarriedOut =>
      exact unlessHeld_keeps (P := fun s => InjectorLaw s.injector) (resetCarriedOut_keeps (P := fun s => InjectorLaw s.injector) fun _ _ => trivial) hs h
    case hardReset => exact exec_hardReset h ▸ trivial
    all_goals simp [reach] at hi
  · have e : t.injector = s.injector := exec_same h hi
    rwa [e]

/-- Settles O6: items, conditioner and injector, each by the rows that reach it. -/
theorem itemsChannelsAndInjectorStayInRange : Obligations.ItemsChannelsAndInjectorStayInRange := by
  unfold Obligations.ItemsChannelsAndInjectorStayInRange
  refine step_keeps (P := fun s => ItemsLaw s.items ∧ CondLaw s.cond ∧ InjectorLaw s.injector) (ps := [.items, .cond, .injector])
    (fun hsame hs => ?frame) (by simp) (by simp) (fun i _ {s t} hs h => ?rows)
  case frame =>
    have hx : _ = _ := hsame .items (by simp)
    have hc : _ = _ := hsame .cond (by simp)
    have hj : _ = _ := hsame .injector (by simp)
    rwa [hx, hc, hj]
  case rows =>
    obtain ⟨hx, hc, hj⟩ := hs
    exact ⟨exec_keeps_items hx h, exec_keeps_cond ⟨hx, hc⟩ h, exec_keeps_injector hj h⟩

end Sys2Proof.Machine
end

section
/-! SUPPORT. Every step keeps the timebase, the ring and the alert in the ranges and the order of their laws: what the samples, the appends, a START, the
stops and the rules of the trigger unit make of them. -/

-- One theorem at a time: the proofs of so long a text would each hold a thread.
set_option Elab.async false

namespace Sys2Proof.Machine

/-! ## The timebase -/

section
variable {t : Timebase}

theorem TimeLaw.ticked (h : TimeLaw t) (hrun : t.running = true) (hroom : t.tick < Config.tickMax) : TimeLaw { t with tick := t.tick + 1 } where
  tick := hroom
  runStart r hr := by
    have := h.runStart r hr
    dsimp only
    omega
  limit _ := .inl hrun
  period := h.period
  epoch := h.epoch

theorem TimeLaw.started (h : TimeLaw t) (hstopped : t.running = false) (hlimit : t.limitReached = false) {period : Nat}
    (hp : 100 ≤ period ∧ period ≤ 10000) :
    TimeLaw { t with running := true, runStart := some (t.tick + 1), stopReason := .none, period := period } where
  tick := h.tick
  runStart r hr := by
    obtain rfl := Option.some.inj hr
    have hle := h.tick
    have hne : t.tick ≠ Config.tickMax := fun e => by simpa [hstopped, hlimit] using h.limit e
    dsimp only
    omega
  limit _ := .inl rfl
  period := hp
  epoch := h.epoch

/-- A stop keeps the timebase's law where it notes the limit (R31, R32). -/
theorem TimeLaw.stopped (h : TimeLaw t) (r : StopReason) {reached : Bool} (hr : t.tick = Config.tickMax → reached = true) :
    TimeLaw { t with running := false, stopReason := r, limitReached := reached } :=
  { h with limit := fun e => .inr (hr e) }

theorem Timebase.afterReset_lawful {x : Items} (hx : ItemsLaw x) (n : Nat) : TimeLaw (Timebase.afterReset x (n % 65536)) where
  tick := Timebase.reset_lawful.tick
  runStart := Timebase.reset_lawful.runStart
  limit := Timebase.reset_lawful.limit
  period := hx.period
  epoch := by
    dsimp only [Timebase.afterReset]
    omega

/-! ## The ring -/

variable {ring : List Row} {ringIn : List Conditioned}

/-- The law of the ring reads of the timebase only the tick, the run start, and whether a part without a run stands still. -/
theorem RingLaw.of_time (h : RingLaw t ring ringIn) {u : Timebase} (htick : u.tick = t.tick) (hstart : u.runStart = t.runStart)
    (hrun : t.running = false → u.running = false) : RingLaw u ring ringIn where
  size := h.size
  oneWaits := h.oneWaits
  consecutive := htick ▸ h.consecutive
  inRun := hstart ▸ h.inRun
  begins := by rw [htick, hstart]; exact h.begins
  unstarted hu := ⟨hrun (h.unstarted (hstart ▸ hu)).1, (h.unstarted (hstart ▸ hu)).2⟩

theorem appendRow_room {r : Row} (h : ring.length < Config.ringRows) : appendRow ring r = ring ++ [r] := by rw [appendRow, if_pos h]

theorem appendRow_full {r : Row} (h : ¬ring.length < Config.ringRows) : appendRow ring r = ring.drop 1 ++ [r] := by rw [appendRow, if_neg h]

theorem RingLaw.of_ticks (h : RingLaw t ring ringIn) {rows : List Row} (hlen : rows.length = ring.length)
    (hticks : sampleTicks rows ringIn = sampleTicks ring ringIn) : RingLaw t rows ringIn where
  size := hlen ▸ h.size
  oneWaits := h.oneWaits
  consecutive := hticks ▸ h.consecutive
  inRun := hticks ▸ h.inRun
  begins := by rw [hticks, hlen]; exact h.begins
  unstarted := hticks ▸ h.unstarted

/-- R37: the oldest row leaves a full ring, and the sample's row follows the newest. -/
theorem RingLaw.appended {c : Conditioned} (h : RingLaw t ring [c]) : RingLaw t (appendRow ring (Row.ofSample c)) [] := by
  by_cases hroom : ring.length < Config.ringRows
  · have hticks : sampleTicks (appendRow ring (Row.ofSample c)) [] = sampleTicks ring [c] := by
      simp [sampleTicks, appendRow_room hroom, Row.ofSample]
    have hlt : ring.length < 4096 := hroom
    exact { size := by simp [appendRow_room hroom]; omega, oneWaits := by simp, consecutive := hticks ▸ h.consecutive, inRun := hticks ▸ h.inRun
            begins := fun _ => hticks ▸ h.begins hlt, unstarted := hticks ▸ h.unstarted }
  · have hfull : ring.length = 4096 := le_antisymm h.size (not_lt.1 hroom)
    have hticks : sampleTicks (appendRow ring (Row.ofSample c)) [] = (sampleTicks ring [c]).drop 1 := by
      cases ring with
      | nil => simp at hfull
      | cons r rest => simp [sampleTicks, appendRow_full hroom, Row.ofSample]
    have hlen : (appendRow ring (Row.ofSample c)).length = 4096 := by simp [appendRow_full hroom, hfull]
    exact { size := hlen.le, oneWaits := by simp, consecutive := hticks ▸ runsTo_drop h.consecutive 1
            inRun := fun r hr k hk => h.inRun r hr k (List.mem_of_mem_drop (hticks ▸ hk)), begins := fun hl => by omega
            unstarted := fun hu => ⟨(h.unstarted hu).1, by rw [hticks, (h.unstarted hu).2]; rfl⟩ }

/-- The next sample is handed on once the ring has taken the one before (log 36). -/
theorem RingLaw.sampled {c : Conditioned} (h : RingLaw t ring []) (ht : TimeLaw t) (hrun : t.running = true) (hc : c.tick = t.tick + 1) :
    RingLaw { t with tick := t.tick + 1 } ring [c] := by
  have hold : sampleTicks ring [c] = sampleTicks ring [] ++ [t.tick + 1] := by simp [sampleTicks, hc]
  refine { size := h.size, oneWaits := by simp, consecutive := hold ▸ runsTo_append h.consecutive rfl, inRun := fun r hr k hk => ?_
           begins := fun hl r hr => ?_, unstarted := fun hu => ?_ }
  · rw [hold, List.mem_append, List.mem_singleton] at hk
    obtain hk | rfl := hk
    · exact h.inRun r hr k hk
    · exact (ht.runStart r hr).2.2
  · have := h.begins hl r hr
    rw [hold]
    cases hx : sampleTicks ring [] <;> simp_all
  · exact absurd (h.unstarted hu).1 (by simp [hrun])

/-- R38: a START empties the ring, and its run begins with the next tick. -/
theorem ringLaw_of_empty {r : Nat} (hs : t.runStart = some r) (hr : t.tick + 1 = r) : RingLaw t [] [] where
  size := by decide
  oneWaits := by decide
  consecutive := trivial
  inRun := by simp [sampleTicks]
  begins _ k hk := by
    rw [hs] at hk
    simp_all [sampleTicks]
  unstarted hu := by simp [hs] at hu

end

/-- An upset changes no tick (R41). -/
theorem sampleTicks_damageRow (tick : Nat) (a b : Bitmap) (m : Bool) (n : Nat) (s : State) (q : List Conditioned) :
    sampleTicks (damageRow tick a b m n s).ring q = sampleTicks s.ring q := by
  have hrow (r : Row) : (if r.tick = tick then r.strike a b m n else r).tick = r.tick := by split <;> simp
  simp [sampleTicks, damageRow, Function.comp_def, hrow]

/-- What the ring holds and what is on its way to it, lawful with the timebase. -/
def State.RingLawful (s : State) : Prop := ItemsLaw s.items ∧ TimeLaw s.time ∧ RingLaw s.time s.ring s.wires.ringIn

theorem ringAppend_lawful {s : State} (h : RingLaw s.time s.ring s.wires.ringIn) :
    RingLaw s.time (ringAppend s).ring (ringAppend s).wires.ringIn := by
  unfold ringAppend
  split
  · exact h
  · rename_i c rest hc
    have hone := h.oneWaits
    rw [hc] at h hone
    obtain rfl : rest = [] := by simpa using hone
    exact h.appended

theorem ringCatchUp_lawful {s : State} (h : RingLaw s.time s.ring s.wires.ringIn) : RingLaw s.time (ringCatchUp s).ring [] := by
  cases hw : s.wires.ringIn with
  | nil =>
    rw [ringCatchUp_of_nil hw]
    exact hw ▸ h
  | cons c rest =>
    have hone := h.oneWaits
    rw [hw] at hone
    obtain rfl : rest = [] := by simpa using hone
    have happ := ringAppend_lawful h
    rw [ringAppend_ringIn, hw] at happ
    rw [ringCatchUp_of_one hw]
    exact happ

theorem makeSample_ringLawful (pins : Bitmap) (senses : GroupSet) {s : State} (h : s.RingLawful) : (makeSample pins senses s).RingLawful := by
  obtain ⟨hx, ht, hr⟩ := h
  unfold makeSample
  split
  · rename_i hs
    simp only [State.samples, Bool.and_eq_true, decide_eq_true_eq] at hs
    have hcatch := ringCatchUp_lawful hr
    obtain ⟨ring, w1, w2, e⟩ := ringCatchUp_only s
    have hempty := ringCatchUp_ringIn s
    rw [e] at hcatch hempty ⊢
    dsimp only at hcatch hempty
    subst hempty
    exact ⟨hx, ht.ticked hs.1 hs.2, hcatch.sampled ht hs.1 rfl⟩
  · exact ⟨hx, ht, hr⟩

theorem acceptStart_ringLawful {s : State} (h : s.RingLawful) (hstopped : s.time.running = false) (hlimit : s.time.limitReached = false) :
    (acceptStart s).RingLawful := by
  obtain ⟨hx, ht, -⟩ := h
  have hempty := ringTakeStart_ringIn s
  obtain ⟨w1, w2, e⟩ := ringTakeStart_only s
  rw [e] at hempty
  dsimp only at hempty
  subst hempty
  unfold acceptStart
  rw [e]
  exact ⟨hx, ht.started hstopped hlimit hx.period, ringLaw_of_empty rfl rfl⟩

theorem stopped_ringLawful {s : State} (h : s.RingLawful) (r : StopReason) {reached : Bool} (hr : s.time.tick = Config.tickMax → reached = true) :
    (handStop r (s.modTime fun t => { t with running := false, stopReason := r, limitReached := reached })).RingLawful :=
  let ⟨hx, ht, hring⟩ := h
  ⟨hx, ht.stopped r hr, hring.of_time rfl rfl fun _ => rfl⟩

theorem exec_keeps_ringLawful {i : Instr} {s t : State} (hs : s.RingLawful) (h : exec i s = .next t) : t.RingLawful := by
  have ⟨hx, ht, hr⟩ := hs
  by_cases hi : Place.time ∈ reach i ∨ Place.ring ∈ reach i ∨ Place.ringIn ∈ reach i
  · cases i
    case sample p g => exact unlessHeld_keeps (makeSample_ringLawful p g) hs h
    case debounceComplete p g | chatterWindowExpiry p g | quietCountdownExpiry p g | supplyLost p g | supplyBack p g | testDelayExpiry p g |
        testPhaseExpiry p g =>
      exact unlessHeld_keeps (sampleWhen_keeps _ _ _ (makeSample_ringLawful p g)) hs h
    case start =>
      refine commandRow_keeps (fun _ h => h) (fun hu ho => ?_) hs h
      obtain rfl | ⟨rfl, hstopped, hlimit⟩ := startOwner_cases ho
      · exact hu
      · exact acceptStart_ringLawful hu hstopped hlimit
    case stop =>
      refine commandRow_keeps (fun _ h => h) (fun {u _ _ _} hu ho => ?_) hs h
      unfold stopOwner at ho
      split at ho
      · obtain ⟨rfl, -, -⟩ := by simpa using ho
        exact stopped_ringLawful hu .stop fun e => by simp [e]
      · obtain ⟨rfl, -, -⟩ := by simpa using ho
        exact hu
    case tickLimitStop =>
      refine unlessHeld_keeps (fun hu => ?_) hs h
      unfold limitStop
      split
      · exact stopped_ringLawful hu .limit fun _ => rfl
      · exact hu
    case ringAppend =>
      refine unlessHeld_keeps (P := State.RingLawful) (fun hu => ?_) hs h
      have happ := ringAppend_lawful hu.2.2
      obtain ⟨r', w1, w2, e⟩ := ringAppend_only s
      rw [e] at happ ⊢
      exact ⟨hx, ht, happ⟩
    case rowDamage k a b m n =>
      refine unlessHeld_keeps (P := State.RingLawful) (fun hu => ⟨hx, ht, ?_⟩) hs h
      exact hr.of_ticks (by simp [damageRow]) (sampleTicks_damageRow k a b m n s s.wires.ringIn)
    case resetCarriedOut =>
      refine unlessHeld_keeps (P := State.RingLawful) (resetCarriedOut_keeps fun keep hu => ?_) hs h
      have hx' := Items.afterReset_lawful hu.1 keep
      exact ⟨hx', Timebase.afterReset_lawful hx' _, ringLaw_of_unstarted rfl rfl⟩
    case hardReset =>
      exact exec_hardReset h ▸ ⟨Items.default_lawful, Timebase.reset_lawful, ringLaw_of_unstarted rfl rfl⟩
    all_goals simp [reach] at hi
  · simp only [not_or] at hi
    obtain ⟨h1, h2, h3⟩ := hi
    have e1 : t.time = s.time := exec_same h h1
    have e2 : t.ring = s.ring := exec_same h h2
    have e3 : t.wires.ringIn = s.wires.ringIn := exec_same h h3
    exact ⟨exec_keeps_items hx h, by rwa [e1], by rwa [e1, e2, e3]⟩

/-- Settles O7. -/
theorem ringLawIsKept : Obligations.RingLawIsKept := by
  unfold Obligations.RingLawIsKept
  refine step_keeps (P := State.RingLawful) (ps := [.items, .time, .ring, .ringIn]) (fun {s t} hsame hs => ?frame) (by simp) (by simp)
    (fun i _ {s t} hs h => exec_keeps_ringLawful hs h)
  case frame =>
    have hx : t.items = s.items := hsame .items (by simp)
    have ht : t.time = s.time := hsame .time (by simp)
    have hr : t.ring = s.ring := hsame .ring (by simp)
    have hw : t.wires.ringIn = s.wires.ringIn := hsame .ringIn (by simp)
    unfold State.RingLawful
    rwa [hx, ht, hr, hw]

/-! ## The alert -/

/-- Within a sample ALERT may still be asserted at a countdown of 0; `settle` releases it then (R56 item 4). -/
structure AlertBound (t : TriggerUnit) : Prop where
  alert : 0 < t.alertCountdown → t.alert = true
  countdown : t.alertCountdown ≤ 255
  holdoff : t.holdoff ≤ 65535

theorem AlertLaw.of_fields {t u : TriggerUnit} (h : AlertLaw t) (h1 : u.alert = t.alert) (h2 : u.alertCountdown = t.alertCountdown)
    (h3 : u.holdoff = t.holdoff) : AlertLaw u := ⟨by rw [h1, h2]; exact h.alert, h2 ▸ h.countdown, h3 ▸ h.holdoff⟩

theorem AlertLaw.countDown {t : TriggerUnit} (h : AlertLaw t) : AlertBound t.countDown where
  alert hc := h.alert.2 (by dsimp only [TriggerUnit.countDown] at hc; omega)
  countdown := by have := h.countdown; dsimp only [TriggerUnit.countDown]; omega
  holdoff := by have := h.holdoff; dsimp only [TriggerUnit.countDown]; omega

theorem AlertBound.settle {t : TriggerUnit} (h : AlertBound t) : AlertLaw t.settle := by
  unfold TriggerUnit.settle
  split
  · rename_i h0
    exact ⟨by simp [h0], h.countdown, h.holdoff⟩
  · rename_i h0
    exact ⟨⟨fun _ => by omega, h.alert⟩, h.countdown, h.holdoff⟩

/-- Items lawful and the trigger unit within its bounds: what the rules of a sample keep. -/
def State.AlertBounded (s : State) : Prop := ItemsLaw s.items ∧ AlertBound s.trig

theorem notifyBoth_trig (f : Notices → Notices) (s : State) : (s.notifyBoth f).trig = s.trig ∧ (s.notifyBoth f).items = s.items := by
  obtain ⟨_, e⟩ := notifyBoth_only s f
  rw [e]
  exact ⟨rfl, rfl⟩

theorem alertRule_bounded {s : State} (c : Change) (k : Nat) (h : s.AlertBounded) : (alertRule c k s).AlertBounded := by
  obtain ⟨hx, hb⟩ := h
  unfold alertRule State.AlertBounded
  rw [(notifyBoth_trig _ _).1, (notifyBoth_trig _ _).2]
  exact ⟨hx, fun _ => rfl, hx.width.2, hb.holdoff⟩

/-- An answer moves counts of the trigger unit only. -/
theorem autoAnswered_bounded {s : State} (c : Change) (k : Nat) (a : Answer) (h : s.AlertBounded) : (autoAnswered c k a s).AlertBounded := by
  obtain ⟨hx, hb⟩ := h
  unfold autoAnswered
  split <;> exact ⟨hx, hb.alert, hb.countdown, hb.holdoff⟩

theorem autoRule_bounded {s : State} (c : Change) (k : Nat) (h : s.AlertBounded) : (autoRule c k s).AlertBounded := by
  obtain ⟨hx, hb⟩ := h
  unfold autoRule
  split
  · exact ⟨hx, hb.alert, hb.countdown, hb.holdoff⟩
  · refine autoAnswered_bounded _ _ _ ?_
    obtain ⟨_, e⟩ := takeOffer_only (s.modTrig fun t => { t with holdoff := s.items.autoHoldoff }) (autoOffer c k)
    rw [e]
    exact ⟨hx, hb.alert, hb.countdown, hx.holdoff⟩

theorem transitionRules_bounded {s : State} (k : Nat) (c : Change) (h : s.AlertBounded) : (transitionRules k s c).AlertBounded := by
  unfold transitionRules
  split
  · dsimp only
    have h1 : (if c.alert then alertRule c k s else s).AlertBounded := by
      split
      · exact alertRule_bounded c k h
      · exact h
    split
    · exact autoRule_bounded c k h1
    · exact h1
  · exact h

theorem transitions_bounded (k : Nat) (cs : List Change) {s : State} (h : s.AlertBounded) : (cs.foldl (transitionRules k) s).AlertBounded := by
  induction cs generalizing s with
  | nil => exact h
  | cons c rest ih => exact ih (transitionRules_bounded k c h)

/-- Items lawful, and ALERT following its countdown. -/
def State.AlertLawful (s : State) : Prop := ItemsLaw s.items ∧ AlertLaw s.trig

theorem trigUnitTakeSample_lawful {s : State} (h : s.AlertLawful) : (trigUnitTakeSample s).AlertLawful := by
  unfold trigUnitTakeSample
  split
  · rename_i c rest _
    have hb := transitions_bounded c.tick c.changes (s := (s.modWires fun w => { w with trigIn := rest }).modTrig TriggerUnit.countDown)
      ⟨h.1, h.2.countDown⟩
    exact ⟨hb.1, hb.2.settle⟩
  · exact h

theorem exec_keeps_trig {i : Instr} {s t : State} (hs : s.AlertLawful) (hi : i ≠ .resetPinAsserted) (h : exec i s = .next t) : AlertLaw t.trig := by
  suffices hkept : Place.trig ∈ reach i → t.AlertLawful by
    by_cases hr : Place.trig ∈ reach i
    · exact (hkept hr).2
    · have e : t.trig = s.trig := exec_same h hr
      exact e ▸ hs.2
  intro hr
  cases i
  case triggerUnitTakeSample => exact unlessHeld_keeps trigUnitTakeSample_lawful hs h
  case alertCountdownExpiry =>
    refine unlessHeld_keeps (P := State.AlertLawful) (fun hu => ?_) hs h
    split
    · exact trigUnitTakeSample_lawful hu
    · exact hu
  case triggerUnitTakeStop =>
    refine unlessHeld_keeps (P := State.AlertLawful) (fun hu => ?_) hs h
    unfold trigUnitTakeStop
    split
    · exact ⟨hu.1, by simp [TriggerUnit.atStop], by simp [TriggerUnit.atStop], by simp [TriggerUnit.atStop]⟩
    · exact hu
  case lineWord b =>
    refine unlessHeld_keeps (P := State.AlertLawful) (fun hu => ?_) hs h
    unfold completeWord
    repeat' split
    all_goals exact ⟨hu.1, hu.2.of_fields rfl rfl rfl⟩
  case lineAnswer =>
    refine unlessHeld_keeps (P := State.AlertLawful) (fun hu => ?_) hs h
    unfold takeLineAnswer lineAnswered
    repeat' split
    all_goals exact ⟨hu.1, hu.2.of_fields rfl rfl rfl⟩
  case lineStartBit b w =>
    refine unlessHeld_keeps (P := State.AlertLawful) (f := fun s => s.modTrig fun t => t.startBit b w) (fun hu => ⟨hu.1, ?_⟩) hs h
    show AlertLaw (s.trig.startBit b w)
    unfold TriggerUnit.startBit
    split
    · exact hu.2
    · exact hu.2.of_fields rfl rfl rfl
  case resetCarriedOut =>
    exact unlessHeld_keeps (P := State.AlertLawful) (resetCarriedOut_keeps fun keep hu => ⟨Items.afterReset_lawful hu.1 keep, TriggerUnit.reset_lawful⟩) hs h
  case hardReset => exact exec_hardReset h ▸ ⟨Items.default_lawful, TriggerUnit.reset_lawful⟩
  case resetPinAsserted => exact absurd rfl hi
  all_goals simp [reach] at hr

/-- A part that is not held by its pin was not held before, or has just had a hard reset (R163). -/
theorem resetPin_free_cases {i : Instr} {s t : State} (h : exec i s = .next t) (ht : t.resetPin = false) :
    i ≠ .resetPinAsserted ∧ (s.resetPin = false ∨ t = hardReset s) := by
  refine ⟨?_, ?_⟩
  · rintro rfl
    obtain rfl : assertPin s = t := by simpa [exec, execResetPinAsserted] using h
    simp [assertPin] at ht
  · by_cases hi : i = .hardReset
    · exact .inr (exec_hardReset (hi ▸ h))
    · refine .inl ?_
      by_contra hpin
      have hpin : s.resetPin = true := by simpa using hpin
      by_cases ha : i = .resetPinAsserted
      · subst ha
        obtain rfl : assertPin s = t := by simpa [exec, execResetPinAsserted] using h
        simp [assertPin] at ht
      · have := resetPinHoldsThePart.1 i s hpin hi ha
        rw [h] at this
        simp_all

/-- Settles O8. -/
theorem alertFollowsItsCountdown : Obligations.AlertFollowsItsCountdown := by
  unfold Obligations.AlertFollowsItsCountdown
  refine step_keeps (P := fun s => ItemsLaw s.items ∧ (s.resetPin = false → AlertLaw s.trig)) (ps := [.items, .trig, .resetPin])
    (fun {s t} hsame hs => ?frame) (by simp) (by simp) (fun i _ {s t} hs h => ⟨exec_keeps_items hs.1 h, fun hpin => ?rows⟩)
  case frame =>
    have hx : t.items = s.items := hsame .items (by simp)
    have ht : t.trig = s.trig := hsame .trig (by simp)
    have hp : t.resetPin = s.resetPin := hsame .resetPin (by simp)
    rwa [hx, ht, hp]
  case rows =>
    obtain ⟨hi, hfree | rfl⟩ := resetPin_free_cases h hpin
    · exact exec_keeps_trig ⟨hs.1, hs.2 hfree⟩ hi h
    · exact TriggerUnit.reset_lawful

end Sys2Proof.Machine
end

section
/-! SUPPORT. What the command handler, a session end and a session's opening make of one link, as functions of that link alone; and the laws of a link,
which every step keeps. -/

-- One theorem at a time: the proofs of so long a text would each hold a thread.
set_option Elab.async false

namespace Sys2Proof.Machine

/-! ## The handler, as a function of the link -/

/-- A REPLY joins the reply queue, and the cache while the session is OPEN (R169). -/
def LinkState.queued (k : LinkState) (r : Reply) : LinkState :=
  { k with replies := k.replies ++ [r], cache := if k.session.isSome then some r else k.cache }

/-- A refusal of a good frame as a REPLY that calls for nothing. -/
def GoodFrame.refusal (f : GoodFrame) (code : Result) : Reply := { seq := f.seq, kind := f.kind, body := .refused code, after := .nothing }

/-- The notice-pending set with a kind set, which only an OPEN session has (R174). -/
def LinkState.noticed (k : LinkState) (f : Notices → Notices) : LinkState :=
  if k.session.isSome then { k with notices := f k.notices } else k

/-- A link whose handler takes a good frame (R168), with a DEVICE-RESET pending or not. -/
def LinkState.taken (k : LinkState) (resetting : Bool) (f : GoodFrame) : LinkState :=
  if Config.replyPlaces ≤ k.replies.length then
    LinkState.noticed { k with counts := { k.counts with overruns := wrap32 (k.counts.overruns + 1) } } fun n => { n with overrun := true }
  else
    match k.cache.filter (fun r => r.seq == f.seq) with
    | some r =>
      { k with replies := k.replies ++ [{ r with after := .nothing }], counts := { k.counts with replays := wrap32 (k.counts.replays + 1) } }
    | none =>
      if resetting then k.queued (f.refusal .resetting)
      else if k.session.isSome && k.byeMark then k
      else if k.session.isNone && f.kind != 0x01#8 then k.queued (f.refusal .noSession)
      else
        match f.reading with
        | .unknownKind => k.queued (f.refusal .unknownKind)
        | .wrongLength => k.queued (f.refusal .badLength)
        | .command c => { k with inHand := some { seq := f.seq, command := c } }

/-- A link whose handler takes these frames in their order until one is in hand (R168). -/
def LinkState.pumped (resetting : Bool) : List GoodFrame → LinkState → LinkState
  | [], k => { k with waiting := [] }
  | f :: rest, k => if k.inHand.isSome then { k with waiting := f :: rest } else LinkState.pumped resetting rest (k.taken resetting f)

theorem State.modLink_modLink (s : State) (l : Link) (f g : LinkState → LinkState) : (s.modLink l f).modLink l g = s.modLink l (fun k => g (f k)) := by
  simp [State.modLink]

theorem State.modLink_congr {s : State} {l : Link} {f g : LinkState → LinkState} (h : f (s.links.get l) = g (s.links.get l)) :
    s.modLink l f = s.modLink l g := by unfold State.modLink; rw [h]

theorem State.modLink_id {s : State} {l : Link} {f : LinkState → LinkState} (h : f (s.links.get l) = s.links.get l) : s.modLink l f = s := by
  rw [State.modLink, h, PerLink.set_get]

theorem State.notify_eq (s : State) (l : Link) (f : Notices → Notices) : s.notify l f = s.modLink l fun k => k.noticed f := by
  unfold State.notify State.sessionOpen
  split
  · rename_i h
    exact State.modLink_congr (by rw [LinkState.noticed, if_pos h])
  · rename_i h
    exact (State.modLink_id (by rw [LinkState.noticed, if_neg h])).symm

theorem State.answer_eq (s : State) (l : Link) (seq kind : Byte) (body : ReplyBody) (after : AfterReply) :
    s.answer l seq kind body after = s.modLink l fun k => k.queued { seq := seq, kind := kind, body := body, after := after } := rfl

/-- What the handler makes of a good frame that meets neither of R168's cases 1 and 2. -/
theorem LinkState.taken_unanswered {k : LinkState} {resetting : Bool} {f : GoodFrame} (hroom : ¬ Config.replyPlaces ≤ k.replies.length)
    (hcache : k.cache.filter (fun r => r.seq == f.seq) = none) : k.taken resetting f =
      if resetting then k.queued (f.refusal .resetting)
      else if k.session.isSome && k.byeMark then k
      else if k.session.isNone && f.kind != 0x01#8 then k.queued (f.refusal .noSession)
      else
        match f.reading with
        | .unknownKind => k.queued (f.refusal .unknownKind)
        | .wrongLength => k.queued (f.refusal .badLength)
        | .command c => { k with inHand := some { seq := f.seq, command := c } } := by
  rw [LinkState.taken, if_neg hroom, hcache]

theorem handlerTake_eq (l : Link) (f : GoodFrame) (s : State) : handlerTake l f s = s.modLink l fun k => k.taken s.resetPending f := by
  unfold handlerTake
  dsimp only
  split
  · rename_i hfull
    rw [handlerOverrun, State.notify_eq, State.modLink_modLink]
    exact State.modLink_congr (by dsimp only; rw [LinkState.taken, if_pos hfull])
  · rename_i hroom
    split
    · rename_i r hr
      exact State.modLink_congr (by rw [LinkState.taken, if_neg hroom, hr])
    · rename_i hr
      have later := LinkState.taken_unanswered (resetting := s.resetPending) hroom hr
      split
      · rename_i hreset
        rw [State.answer_eq]
        exact State.modLink_congr (by rw [later, if_pos hreset]; rfl)
      · rename_i hreset
        rw [if_neg hreset] at later
        split
        · rename_i hbye
          exact (State.modLink_id (by rw [later, if_pos hbye])).symm
        · rename_i hbye
          rw [if_neg hbye] at later
          split
          · rename_i hclosed
            rw [State.answer_eq]
            exact State.modLink_congr (by rw [later, if_pos hclosed]; rfl)
          · rename_i hclosed
            rw [if_neg hclosed] at later
            split
            · rename_i hread
              rw [State.answer_eq]
              exact State.modLink_congr (by rw [later, hread]; rfl)
            · rename_i hread
              rw [State.answer_eq]
              exact State.modLink_congr (by rw [later, hread]; rfl)
            · rename_i c hread
              exact State.modLink_congr (by rw [later, hread])

theorem handlerPump_eq (l : Link) (fs : List GoodFrame) (s : State) : handlerPump l fs s = s.modLink l (LinkState.pumped s.resetPending fs) := by
  induction fs generalizing s with
  | nil => rfl
  | cons f rest ih =>
    unfold handlerPump
    split
    · rename_i hin
      exact State.modLink_congr (by rw [LinkState.pumped, if_pos hin])
    · rename_i hfree
      rw [handlerTake_eq, ih, State.modLink_modLink]
      exact State.modLink_congr (by rw [LinkState.pumped, if_neg hfree]; rfl)

/-- A link that has received a good frame: counted, the session timer restarted, and the frame taken after those that wait (R166, R168). -/
def LinkState.received (k : LinkState) (resetting : Bool) (f : GoodFrame) : LinkState := k.counted.pumped resetting (k.waiting ++ [f])

theorem goodFrame_eq (l : Link) (f : GoodFrame) (s : State) : goodFrame l f s = s.modLink l fun k => k.received s.resetPending f := by
  unfold goodFrame
  rw [handlerPump_eq, State.modLink_modLink]
  refine State.modLink_congr ?_
  simp only [State.modLink_links, PerLink.get_set_self]
  rfl

/-- A link whose command in hand has been answered: the REPLY queued, and the waiting frames taken (R168). -/
def LinkState.finished (k : LinkState) (resetting : Bool) (r : Reply) : LinkState :=
  (LinkState.queued { k with inHand := none } r).pumped resetting k.waiting

theorem finishCommand_eq (l : Link) (seq kind : Byte) (body : ReplyBody) (after : AfterReply) (s : State) :
    finishCommand l seq kind body after s =
      s.modLink l fun k => k.finished s.resetPending { seq := seq, kind := kind, body := body, after := after } := by
  unfold finishCommand
  rw [handlerPump_eq, State.answer_eq, State.modLink_modLink, State.modLink_modLink]
  refine State.modLink_congr ?_
  simp only [State.modLink_links, PerLink.get_set_self]
  rfl

theorem ResetCondition.atSessionEnd_normal (d : ResetCondition) (l : Link) (n : Nat) (rs : List Reply) :
    d.atSessionEnd l n rs = .normal ↔ d = .normal := by
  unfold ResetCondition.atSessionEnd
  repeat' split
  all_goals simp_all

theorem State.resetPending_iff (s : State) : s.resetPending = true ↔ s.device ≠ .normal := by
  unfold State.resetPending
  cases s.device <;> simp

theorem State.resetPending_congr {s t : State} (h : t.device = .normal ↔ s.device = .normal) : t.resetPending = s.resetPending := by
  rw [Bool.eq_iff_iff, State.resetPending_iff, State.resetPending_iff]
  exact not_congr h

/-- The end of an OPEN link's session (R173): the reset condition, the link, and the hand-offs. -/
theorem endSession_open {l : Link} {n : Nat} {s : State} (r : SessionEndReason) (h : (s.links.get l).session = some n) :
    endSession l r s = ((s.setDevice (s.device.atSessionEnd l n (s.links.get l).replies)).modLink l fun k =>
      (k.endSession n r).pumped s.resetPending k.waiting).modWires fun w => w.endSession l := by
  have hwait (k : LinkState) : (k.endSession n r).waiting = k.waiting := by
    unfold LinkState.endSession LinkState.takeFreeRate LinkState.takeDueRate
    repeat' split
    all_goals rfl
  have hpend : State.resetPending (((s.setDevice (s.device.atSessionEnd l n (s.links.get l).replies)).modLink l fun k =>
      k.endSession n r).modWires fun w => w.endSession l) = s.resetPending :=
    State.resetPending_congr (ResetCondition.atSessionEnd_normal _ _ _ _)
  unfold endSession
  rw [h]
  dsimp only
  rw [handlerPump_eq, hpend]
  simp [State.modLink, State.modWires, hwait]

theorem endSession_closed {l : Link} {s : State} (r : SessionEndReason) (h : (s.links.get l).session = none) : endSession l r s = s := by
  rw [endSession, h]

/-! ## The law of one link -/

section
variable {k : LinkState} {resetting : Bool}

/-- The law of a link but for the frames that wait at its handler. -/
def LinkState.LawfulBase (k : LinkState) : Prop := LinkLaw { k with waiting := [] }

theorem LinkLaw.base (h : LinkLaw k) : k.LawfulBase := { h with inOrder := fun e => absurd rfl e, readAs := by simp }

theorem LinkState.LawfulBase.lawful (h : k.LawfulBase) (hw : k.waiting ≠ [] → k.inHand.isSome = true)
    (hr : ∀ f ∈ k.waiting, ∀ c, f.reading = .command c → c.kind = f.kind) : LinkLaw k := { h with inOrder := hw, readAs := hr }

theorem LinkState.LawfulBase.queued (h : k.LawfulBase) (hfree : k.inHand = none) (hroom : k.replies.length ≤ 3) (r : Reply) :
    (k.queued r).LawfulBase :=
  { h with
    replies := by simp [LinkState.queued]; omega
    room := by simp [LinkState.queued, hfree]
    cache := by
      have := h.cache
      simp only [LinkState.queued]
      cases hs : k.session <;> simp_all }

/-- A command whose KIND is HELLO's is HELLO (Table 11-1). -/
theorem Command.eq_hello_of_kind {c : Command} (h : c.kind = 0x01#8) : c = .hello := by
  cases c <;> first | rfl | simp [Command.kind] at h

theorem LinkState.LawfulBase.noticed (h : k.LawfulBase) (f : Notices → Notices) : (k.noticed f).LawfulBase := by
  unfold LinkState.noticed
  split
  · rename_i hopen
    exact { h with notices := fun _ => hopen }
  · exact h

theorem LinkState.LawfulBase.taken (h : k.LawfulBase) (hfree : k.inHand = none) {f : GoodFrame}
    (hf : ∀ c, f.reading = .command c → c.kind = f.kind) : (k.taken resetting f).LawfulBase := by
  unfold LinkState.taken
  split
  · refine LinkState.LawfulBase.noticed ?_ _
    exact { h with }
  · rename_i hfull
    have hroom : k.replies.length ≤ 3 := by
      have : Config.replyPlaces = 4 := rfl
      omega
    split
    · exact { h with replies := by simp; omega, room := by simp [hfree] }
    · repeat' split
      all_goals first
        | exact h.queued hfree hroom _
        | exact h
        | skip
      rename_i hclosed _ c hc
      refine { h with inOrder := fun e => absurd rfl e, room := fun _ => hroom, command := fun x hx => ?_ }
      obtain rfl := Option.some.inj hx
      cases hs : k.session with
      | some n => exact .inr rfl
      | none => exact .inl (Command.eq_hello_of_kind (by rw [hf c hc]; simpa [hs] using hclosed))

theorem LinkState.LawfulBase.pumped {fs : List GoodFrame} (h : k.LawfulBase) (hfs : ∀ f ∈ fs, ∀ c, f.reading = .command c → c.kind = f.kind) :
    LinkLaw (k.pumped resetting fs) := by
  induction fs generalizing k with
  | nil => exact h
  | cons f rest ih =>
    unfold LinkState.pumped
    split
    · rename_i hin
      exact { h with inOrder := fun _ => hin, readAs := hfs }
    · rename_i hfree
      exact ih (h.taken (by simpa using hfree) (hfs f (by simp))) fun g hg => hfs g (by simp [hg])

theorem LinkLaw.received (h : LinkLaw k) {f : GoodFrame} (hf : ∀ c, f.reading = .command c → c.kind = f.kind) : LinkLaw (k.received resetting f) := by
  have hbase : k.counted.LawfulBase := { h.base with }
  refine hbase.pumped fun g hg => ?_
  obtain hg | hg := List.mem_append.1 hg
  · exact h.readAs g hg
  · exact List.mem_singleton.1 hg ▸ hf

theorem LinkLaw.finished (h : LinkLaw k) (hroom : k.replies.length ≤ 3) (r : Reply) : LinkLaw (k.finished resetting r) := by
  have hbase : LinkState.LawfulBase { k with inHand := none } := { h.base with inOrder := fun e => absurd rfl e, room := by simp, command := by simp }
  exact (hbase.queued rfl hroom r).pumped h.readAs

theorem LinkState.takeDueRate_lawful (h : LinkLaw k) : LinkLaw k.takeDueRate := by
  unfold LinkState.takeDueRate
  split
  · exact h
  · exact { h with }

theorem LinkState.takeFreeRate_lawful (h : LinkLaw k) : LinkLaw k.takeFreeRate := by
  unfold LinkState.takeFreeRate
  split
  · exact h
  · exact LinkState.takeDueRate_lawful h

theorem LinkState.takeFreeRate_base (h : k.LawfulBase) : k.takeFreeRate.LawfulBase := by
  unfold LinkState.takeFreeRate LinkState.takeDueRate
  repeat' split
  · exact h
  · exact h
  · exact { h with }

theorem keepHello_eq_some {x : InHand} {o : Option InHand} : keepHello o = some x ↔ o = some x ∧ x.command = .hello := by
  simp [keepHello, Option.filter_eq_some_iff]

/-- What a session end leaves, before the waiting frames are taken (R173). -/
theorem LinkLaw.ended (h : LinkLaw k) (n : Nat) (r : SessionEndReason) : (k.endSession n r).LawfulBase := by
  unfold LinkState.endSession
  refine LinkState.takeFreeRate_base ?_
  exact
    { replies := by simp
      room := by simp
      inOrder := fun e => absurd rfl e
      readAs := by simp
      mark := by simp
      cache := by simp
      notices := by simp [Notices.empty, Notices.isEmpty]
      number := by simp
      last := h.last
      command := fun x hx => .inl (keepHello_eq_some.1 hx).2
      outSeq := h.outSeq }

end

end Sys2Proof.Machine
end

section
/-! SUPPORT. Reading a frame is the inverse of writing a command (O15): the fields of a body go onto the line and come back byte for byte. -/

-- One theorem at a time: the proofs of so long a text would each hold a thread.
set_option Elab.async false

namespace Sys2Proof.Machine

/-! ## Fields of a body, there and back -/

section
variable (b0 b1 b2 b3 b4 b5 : Byte)

@[simp] theorem byteOf_self (b : Byte) : byteOf b 0 = b := BitVec.extractLsb'_eq_self

theorem byteOf_append_low {n : Nat} (high : BitVec n) (b : Byte) : byteOf (high ++ b) 0 = b := BitVec.extractLsb'_append_eq_right

theorem byteOf_append_high {n k : Nat} (high : BitVec n) (b : Byte) (hk : 0 < k) : byteOf (high ++ b) k = byteOf high (k - 1) := by
  unfold byteOf
  rw [BitVec.extractLsb'_append_eq_of_le (by omega), show 8 * k - 8 = 8 * (k - 1) by omega]

/-- Two neighbouring fields of a word, put together. -/
theorem extract_append_byteOf {w : Nat} (x : BitVec w) {k n m : Nat} (hm : m = 8 * (k + 1)) :
    x.extractLsb' m n ++ byteOf x k = x.extractLsb' (8 * k) (n + 8) :=
  BitVec.extractLsb'_append_extractLsb'_eq_extractLsb' (by omega)

@[simp] theorem bytes16_u16 : bytes16 (u16 b0 b1) = [b0, b1] := by
  unfold bytes16 u16
  rw [byteOf_append_low, byteOf_append_high _ _ (by omega), byteOf_self]

@[simp] theorem u16_byteOf (x : BitVec 16) : u16 (byteOf x 0) (byteOf x 1) = x := by
  have h := extract_append_byteOf x (k := 0) (n := 8) (m := 8) rfl
  exact h.trans BitVec.extractLsb'_eq_self

@[simp] theorem bytes32_u32 : bytes32 (u32 b0 b1 b2 b3) = [b0, b1, b2, b3] := by
  unfold bytes32 u32
  simp [byteOf_append_low, byteOf_append_high]

@[simp] theorem u32_byteOf (x : BitVec 32) : u32 (byteOf x 0) (byteOf x 1) (byteOf x 2) (byteOf x 3) = x := by
  unfold u32
  have h2 := extract_append_byteOf x (k := 2) (n := 8) (m := 24) rfl
  have h1 := extract_append_byteOf x (k := 1) (n := 16) (m := 16) rfl
  have h0 := extract_append_byteOf x (k := 0) (n := 24) (m := 8) rfl
  rw [show byteOf x 3 = x.extractLsb' 24 8 from rfl, h2]
  exact ((congrArg (fun y => y ++ byteOf x 0) h1).trans h0).trans BitVec.extractLsb'_eq_self

@[simp] theorem u40_byteOf (x : BitVec 40) : u40 (byteOf x 0) (byteOf x 1) (byteOf x 2) (byteOf x 3) (byteOf x 4) = x := by
  unfold u40
  have h3 := extract_append_byteOf x (k := 3) (n := 8) (m := 32) rfl
  have h2 := extract_append_byteOf x (k := 2) (n := 16) (m := 24) rfl
  have h1 := extract_append_byteOf x (k := 1) (n := 24) (m := 16) rfl
  have h0 := extract_append_byteOf x (k := 0) (n := 32) (m := 8) rfl
  calc
    _ = x.extractLsb' 24 16 ++ byteOf x 2 ++ byteOf x 1 ++ byteOf x 0 := congrArg (fun y => y ++ byteOf x 2 ++ byteOf x 1 ++ byteOf x 0) h3
    _ = x.extractLsb' 16 24 ++ byteOf x 1 ++ byteOf x 0 := congrArg (fun y => y ++ byteOf x 1 ++ byteOf x 0) h2
    _ = x.extractLsb' 8 32 ++ byteOf x 0 := congrArg (fun y => y ++ byteOf x 0) h1
    _ = x := h0.trans BitVec.extractLsb'_eq_self

@[simp] theorem u48_byteOf (x : Bitmap) : u48 (byteOf x 0) (byteOf x 1) (byteOf x 2) (byteOf x 3) (byteOf x 4) (byteOf x 5) = x := by
  unfold u48
  have h4 := extract_append_byteOf x (k := 4) (n := 8) (m := 40) rfl
  have h3 := extract_append_byteOf x (k := 3) (n := 16) (m := 32) rfl
  have h2 := extract_append_byteOf x (k := 2) (n := 24) (m := 24) rfl
  have h1 := extract_append_byteOf x (k := 1) (n := 32) (m := 16) rfl
  have h0 := extract_append_byteOf x (k := 0) (n := 40) (m := 8) rfl
  calc
    _ = x.extractLsb' 32 16 ++ byteOf x 3 ++ byteOf x 2 ++ byteOf x 1 ++ byteOf x 0 :=
      congrArg (fun y => y ++ byteOf x 3 ++ byteOf x 2 ++ byteOf x 1 ++ byteOf x 0) h4
    _ = x.extractLsb' 24 24 ++ byteOf x 2 ++ byteOf x 1 ++ byteOf x 0 := congrArg (fun y => y ++ byteOf x 2 ++ byteOf x 1 ++ byteOf x 0) h3
    _ = x.extractLsb' 16 32 ++ byteOf x 1 ++ byteOf x 0 := congrArg (fun y => y ++ byteOf x 1 ++ byteOf x 0) h2
    _ = x.extractLsb' 8 40 ++ byteOf x 0 := congrArg (fun y => y ++ byteOf x 0) h1
    _ = x := h0.trans BitVec.extractLsb'_eq_self

@[simp] theorem bytes_u40 : (byteOf (u40 b0 b1 b2 b3 b4) 0 = b0 ∧ byteOf (u40 b0 b1 b2 b3 b4) 1 = b1 ∧ byteOf (u40 b0 b1 b2 b3 b4) 2 = b2
    ∧ byteOf (u40 b0 b1 b2 b3 b4) 3 = b3 ∧ byteOf (u40 b0 b1 b2 b3 b4) 4 = b4) := by
  unfold u40
  simp [byteOf_append_low, byteOf_append_high]

@[simp] theorem bytes_u48 : (byteOf (u48 b0 b1 b2 b3 b4 b5) 0 = b0 ∧ byteOf (u48 b0 b1 b2 b3 b4 b5) 1 = b1 ∧ byteOf (u48 b0 b1 b2 b3 b4 b5) 2 = b2
    ∧ byteOf (u48 b0 b1 b2 b3 b4 b5) 3 = b3 ∧ byteOf (u48 b0 b1 b2 b3 b4 b5) 4 = b4 ∧ byteOf (u48 b0 b1 b2 b3 b4 b5) 5 = b5) := by
  unfold u48
  simp [byteOf_append_low, byteOf_append_high]

end

/-! ## Reading and writing -/

theorem emptyBody_eq_command {c d : Command} {body : List Byte} : emptyBody c body = .command d ↔ d = c ∧ body = [] := by
  cases body <;> simp [emptyBody, eq_comm]

theorem emptyBody_ne_unknown {c : Command} {body : List Byte} : emptyBody c body ≠ .unknownKind := by
  cases body <;> simp [emptyBody]

/-- A command that a frame reads as has the frame's KIND and body. -/
theorem kind_body_of_readFrame {kind : Byte} {body : List Byte} {c : Command} (h : readFrame kind body = .command c) :
    kind = c.kind ∧ body = c.body := by
  unfold readFrame at h
  split at h
  all_goals
    rename_i hk
    repeat' split at h
    all_goals first
      | contradiction
      | obtain ⟨rfl, rfl⟩ := emptyBody_eq_command.1 h
        exact ⟨BitVec.eq_of_toNat_eq hk, rfl⟩
      | cases h
        exact ⟨BitVec.eq_of_toNat_eq hk, by simp [Command.body]⟩

/-- A command's frame reads as that command. -/
theorem readFrame_written (c : Command) : readFrame c.kind c.body = .command c := by
  cases c <;> simp [readFrame, Command.kind, Command.body, emptyBody, bytes16, bytes32]

/-- A frame of a command's KIND is not of an unknown kind, whatever its body. -/
theorem readFrame_known (c : Command) (body : List Byte) : readFrame c.kind body ≠ .unknownKind := by
  cases c <;> simp only [readFrame, Command.kind, BitVec.reduceToNat] <;> first | exact emptyBody_ne_unknown | (split <;> simp)

/-- The KINDs of Table 11-1 that a host sends are those of commands. -/
theorem exists_command_of_known {kind : Byte} {body : List Byte} (h : readFrame kind body ≠ .unknownKind) : ∃ c : Command, c.kind = kind := by
  unfold readFrame at h
  split at h
  case h_1 hk => exact ⟨.hello, BitVec.eq_of_toNat_eq hk.symm⟩
  case h_2 hk => exact ⟨.bye, BitVec.eq_of_toNat_eq hk.symm⟩
  case h_3 hk => exact ⟨.ping, BitVec.eq_of_toNat_eq hk.symm⟩
  case h_4 hk => exact ⟨.get 0, BitVec.eq_of_toNat_eq hk.symm⟩
  case h_5 hk => exact ⟨.set 0 [], BitVec.eq_of_toNat_eq hk.symm⟩
  case h_6 hk => exact ⟨.deviceReset 0, BitVec.eq_of_toNat_eq hk.symm⟩
  case h_7 hk => exact ⟨.start, BitVec.eq_of_toNat_eq hk.symm⟩
  case h_8 hk => exact ⟨.stop, BitVec.eq_of_toNat_eq hk.symm⟩
  case h_9 hk => exact ⟨.snapshot, BitVec.eq_of_toNat_eq hk.symm⟩
  case h_10 hk => exact ⟨.trigger 0 0 0 0 0 0, BitVec.eq_of_toNat_eq hk.symm⟩
  case h_11 hk => exact ⟨.abort 0 0, BitVec.eq_of_toNat_eq hk.symm⟩
  case h_12 hk => exact ⟨.slotStatus 0, BitVec.eq_of_toNat_eq hk.symm⟩
  case h_13 hk => exact ⟨.fetch 0 0 0, BitVec.eq_of_toNat_eq hk.symm⟩
  case h_14 hk => exact ⟨.release 0 0, BitVec.eq_of_toNat_eq hk.symm⟩
  case h_15 hk => exact ⟨.journalSubscribe 0, BitVec.eq_of_toNat_eq hk.symm⟩
  case h_16 hk => exact ⟨.journalAck 0, BitVec.eq_of_toNat_eq hk.symm⟩
  case h_17 hk => exact ⟨.journalRewind, BitVec.eq_of_toNat_eq hk.symm⟩
  case h_18 hk => exact ⟨.journalUnsubscribe, BitVec.eq_of_toNat_eq hk.symm⟩
  case h_19 hk => exact ⟨.test 0 0 0 0 0 0 0 0, BitVec.eq_of_toNat_eq hk.symm⟩
  case h_20 hk => exact ⟨.testCancel, BitVec.eq_of_toNat_eq hk.symm⟩
  case h_21 hk => exact ⟨.faultsRead, BitVec.eq_of_toNat_eq hk.symm⟩
  case h_22 hk => exact ⟨.faultsClear 0, BitVec.eq_of_toNat_eq hk.symm⟩
  case h_23 => exact absurd rfl h

/-- Settles O15. -/
theorem commandsReadAsWritten : Obligations.CommandsReadAsWritten := by
  unfold Obligations.CommandsReadAsWritten
  refine ⟨fun kind body c => ⟨kind_body_of_readFrame, ?_⟩, fun kind body => ⟨?_, fun h => ?_⟩⟩
  · rintro ⟨rfl, rfl⟩
    exact readFrame_written c
  · rintro h c rfl
    exact readFrame_known c body h
  · by_contra hk
    obtain ⟨c, hc⟩ := exists_command_of_known hk
    exact h c hc

end Sys2Proof.Machine
end

section
/-! SUPPORT. Every row keeps the laws of the links (O14): what each row that reaches a link makes of it is one of the functions of the layer
before, or a change of fields the law does not speak of. -/

-- One theorem at a time: the proofs of so long a text would each hold a thread.
set_option Elab.async false

namespace Sys2Proof.Machine

/-- Every link meets its law. -/
def State.LinksLawful (s : State) : Prop := ∀ l, LinkLaw (s.links.get l)

section
variable {s t u : State} {l : Link}

theorem State.LinksLawful.congr (h : s.LinksLawful) (e : t.links = s.links) : t.LinksLawful := fun l => by rw [e]; exact h l

theorem State.LinksLawful.modLink (h : s.LinksLawful) {f : LinkState → LinkState} (hf : LinkLaw (s.links.get l) → LinkLaw (f (s.links.get l))) :
    (s.modLink l f).LinksLawful := by
  intro m
  rw [State.modLink_links, PerLink.get_set]
  split
  · exact hf (h l)
  · exact h m

/-! ## The shared operations -/

theorem LinkLaw.noticed {k : LinkState} (h : LinkLaw k) (f : Notices → Notices) : LinkLaw (k.noticed f) := by
  unfold LinkState.noticed
  split
  · rename_i hopen
    exact { h with notices := fun _ => hopen }
  · exact h

theorem State.LinksLawful.notify (h : s.LinksLawful) (f : Notices → Notices) : (s.notify l f).LinksLawful := by
  rw [State.notify_eq]
  exact h.modLink fun hk => hk.noticed f

theorem State.LinksLawful.notifyBoth (h : s.LinksLawful) (f : Notices → Notices) : (s.notifyBoth f).LinksLawful := (h.notify f).notify f

theorem State.LinksLawful.goodFrame (h : s.LinksLawful) {f : GoodFrame} (hf : ∀ c, f.reading = .command c → c.kind = f.kind) :
    (goodFrame l f s).LinksLawful := by
  rw [goodFrame_eq]
  exact h.modLink fun hk => hk.received hf

theorem State.LinksLawful.finishCommand (h : s.LinksLawful) (hin : (s.links.get l).inHand.isSome = true) (seq kind : Byte) (body : ReplyBody)
    (after : AfterReply) : (finishCommand l seq kind body after s).LinksLawful := by
  rw [finishCommand_eq]
  exact h.modLink fun hk => hk.finished (hk.room hin) _

theorem State.LinksLawful.endSession (h : s.LinksLawful) (r : SessionEndReason) : (endSession l r s).LinksLawful := by
  cases hs : (s.links.get l).session with
  | none => rw [endSession_closed r hs]; exact h
  | some n =>
    rw [endSession_open r hs]
    have hd : (s.setDevice (s.device.atSessionEnd l n (s.links.get l).replies)).LinksLawful := h.congr rfl
    have ended := hd.modLink (l := l) (f := fun k => (k.endSession n r).pumped s.resetPending k.waiting) fun hk => (hk.ended n r).pumped hk.readAs
    exact ended.congr rfl

/-- A command in hand keeps the frames that wait where they are. -/
theorem LinkState.pumped_inHand {k : LinkState} (h : k.inHand.isSome = true) (resetting : Bool) (fs : List GoodFrame) :
    k.pumped resetting fs = { k with waiting := fs } := by
  cases fs with
  | nil => rfl
  | cons f rest => rw [LinkState.pumped, if_pos h]

theorem LinkState.endSession_inHand (k : LinkState) (n : Nat) (r : SessionEndReason) : (k.endSession n r).inHand = keepHello k.inHand := by
  unfold LinkState.endSession LinkState.takeFreeRate LinkState.takeDueRate
  repeat' split
  all_goals rfl

/-- A HELLO in hand stays in hand at the end of a session (log 18). -/
theorem endSession_keeps_hello {seq : Byte} (r : SessionEndReason) (h : (s.links.get l).inHand = some { seq := seq, command := .hello }) :
    ((endSession l r s).links.get l).inHand = some { seq := seq, command := .hello } := by
  cases hs : (s.links.get l).session with
  | none => rw [endSession_closed r hs, h]
  | some n =>
    have hin : ((s.links.get l).endSession n r).inHand = some { seq := seq, command := .hello } := by
      rw [LinkState.endSession_inHand, h]; rfl
    rw [endSession_open r hs]
    simp [LinkState.pumped_inHand, hin]

/-- The end of a session leaves the other link. -/
theorem endSession_other {m : Link} (r : SessionEndReason) (hm : m ≠ l) : (endSession l r s).links.get m = s.links.get m := by
  cases hs : (s.links.get l).session with
  | none => rw [endSession_closed r hs]
  | some n => simp [endSession_open r hs, PerLink.get_set, hm]

/-! ## A command's row -/

/-- The induction over a command's row, for a law that speaks of the links: the arrival of its frame, what its owner does while the command is in
hand, and its answer. -/
theorem commandRow_keeps_inHand {P : State → Prop} {seq : Byte} {c : Command} {own : Owner}
    (hgood : ∀ {u : State}, P u → P (goodFrame l { seq := seq, kind := c.kind, reading := .command c } u))
    (hfinish : ∀ {u : State} (body : ReplyBody) (after : AfterReply), P u → (u.links.get l).inHand.isSome = true →
      P (finishCommand l seq c.kind body after u))
    (hown : ∀ {u t : State} {body : ReplyBody} {after : AfterReply}, P u → (u.links.get l).inHand = some { seq := seq, command := c } →
      own u = some (t, body, after) → P t ∧ (t.links.get l).inHand.isSome = true) (hs : P s) : P (commandRow l seq c own s) := by
  have taken {u : State} (hu : P u) : P (ownerTakes l seq c own u) := by
    unfold ownerTakes
    split
    · rename_i hin
      split
      · exact hfinish _ _ hu (by rw [hin]; rfl)
      · split
        · exact hu
        · rename_i ho
          exact hfinish _ _ (hown hu hin ho).1 (hown hu hin ho).2
    · exact hu
  unfold commandRow
  split
  · exact taken hs
  · exact taken (hgood hs)

theorem commandRow_keeps_links {seq : Byte} {c : Command} {own : Owner}
    (hown : ∀ {u t : State} {body : ReplyBody} {after : AfterReply}, u.LinksLawful → (u.links.get l).inHand = some { seq := seq, command := c } →
      own u = some (t, body, after) → t.LinksLawful ∧ (t.links.get l).inHand.isSome = true) (hs : s.LinksLawful) :
    (commandRow l seq c own s).LinksLawful :=
  commandRow_keeps_inHand (P := State.LinksLawful) (fun hu => hu.goodFrame fun d hd => by cases hd; rfl)
    (fun body after hu hin => hu.finishCommand hin seq c.kind body after) hown hs

/-- The row of a command whose owner leaves the links. -/
theorem commandRow_keeps_links_of_same {seq : Byte} {c : Command} {own : Owner}
    (hown : ∀ {u t : State} {body : ReplyBody} {after : AfterReply}, own u = some (t, body, after) → t.links = u.links) (hs : s.LinksLawful) :
    (commandRow l seq c own s).LinksLawful :=
  commandRow_keeps_links (fun hu hin ho => ⟨hu.congr (hown ho), by rw [hown ho, hin]; rfl⟩) hs

/-! ## The owners that reach the links -/

theorem LinkLaw.opened {k : LinkState} (h : LinkLaw k) : LinkLaw k.openSession :=
  { h with
    mark := fun _ => rfl
    cache := fun _ => rfl
    notices := fun _ => rfl
    number := fun n hn => by
      obtain rfl := Option.some.inj hn
      exact ⟨rfl, by unfold next65535; split <;> omega⟩
    last := by
      have := h.last
      simp only [LinkState.openSession, next65535]
      split <;> omega
    command := fun _ _ => .inr rfl }

theorem helloOwner_links {seq : Byte} {body : ReplyBody} {after : AfterReply} (hs : s.LinksLawful)
    (hin : (s.links.get l).inHand = some { seq := seq, command := .hello }) (h : helloOwner l s = some (t, body, after)) :
    t.LinksLawful ∧ (t.links.get l).inHand.isSome = true := by
  simp only [helloOwner, Option.some.injEq, Prod.mk.injEq] at h
  obtain ⟨rfl, -, -⟩ := h
  refine ⟨(hs.endSession .rehello).modLink LinkLaw.opened, ?_⟩
  simp [LinkState.openSession, endSession_keeps_hello .rehello hin]

theorem byeOwner_links {seq : Byte} {body : ReplyBody} {after : AfterReply} (hs : s.LinksLawful)
    (hin : (s.links.get l).inHand = some { seq := seq, command := .bye }) (h : byeOwner l s = some (t, body, after)) :
    t.LinksLawful ∧ (t.links.get l).inHand.isSome = true := by
  simp only [byeOwner, Option.some.injEq, Prod.mk.injEq] at h
  obtain ⟨rfl, -, -⟩ := h
  refine ⟨hs.modLink fun hk => ?_, by simp [hin]⟩
  have hopen := hk.command _ hin
  exact { hk with mark := fun _ => by simpa using hopen }

theorem setOwner_links {id : BitVec 16} {v : List Byte} {seq : Byte} {c : Command} {body : ReplyBody} {after : AfterReply} (hs : s.LinksLawful)
    (hin : (s.links.get l).inHand = some { seq := seq, command := c }) (h : setOwner l id v s = some (t, body, after)) :
    t.LinksLawful ∧ (t.links.get l).inHand.isSome = true := by
  have same {x : Items} : ((s.setItems x).links.get l).inHand.isSome = true := by simp [hin]
  unfold setOwner at h
  split at h
  · simp only [Option.some.injEq, Prod.mk.injEq] at h
    obtain ⟨rfl, -, -⟩ := h
    exact ⟨hs, by rw [hin]; rfl⟩
  · rename_i x items _
    simp only [Option.some.injEq, Prod.mk.injEq] at h
    obtain ⟨rfl, -, -⟩ := h
    have hx : (s.setItems items).LinksLawful := hs.congr rfl
    unfold afterSet
    split
    · split
      · exact ⟨hx, same⟩
      · rename_i m _ hm
        refine ⟨hx.modLink fun hk => LinkState.takeFreeRate_lawful { hk with }, ?_⟩
        rw [State.modLink_links, PerLink.get_set, if_neg fun e : l = m => hm e.symm]
        exact same
    · unfold endIfOverdue
      split
      · refine ⟨hx.endSession .timeout, ?_⟩
        rw [endSession_other _ fun e => (otherLink_ne l).mp e.symm]
        exact same
      · exact ⟨hx, same⟩
    · exact ⟨hx, same⟩

/-! ## The trigger unit's sample -/

theorem takeOffer_links (o : Offer) (s : State) : (takeOffer o s).1.links = s.links := by
  obtain ⟨_, h⟩ := takeOffer_only s o
  rw [h]

theorem State.LinksLawful.autoRule (h : s.LinksLawful) (c : Change) (tick : Nat) : (autoRule c tick s).LinksLawful := by
  unfold Sys2Proof.Machine.autoRule autoAnswered
  dsimp only
  repeat' split
  all_goals exact h.congr (by simp [State.triggerEntry, takeOffer_links])

theorem State.LinksLawful.transitionRules (h : s.LinksLawful) (tick : Nat) (c : Change) : (transitionRules tick s c).LinksLawful := by
  unfold Sys2Proof.Machine.transitionRules
  have alerted : (if c.alert then alertRule c tick s else s).LinksLawful := by
    split
    · exact State.LinksLawful.notifyBoth (s := s.modTrig _) (h.congr rfl) _
    · exact h
  split
  · dsimp only
    split
    · exact alerted.autoRule c tick
    · exact alerted
  · exact h

theorem State.LinksLawful.trigUnitSample (h : s.LinksLawful) (c : Conditioned) : (trigUnitSample c s).LinksLawful := by
  have folded (cs : List Change) {u : State} (hu : u.LinksLawful) :
      (cs.foldl (Sys2Proof.Machine.transitionRules c.tick) u).LinksLawful := by
    induction cs generalizing u with
    | nil => exact hu
    | cons x xs ih => exact ih (hu.transitionRules c.tick x)
  have counted : (s.modTrig TriggerUnit.countDown).LinksLawful := h.congr rfl
  exact (folded c.changes counted).congr rfl

theorem State.LinksLawful.trigUnitTakeSample (h : s.LinksLawful) : (trigUnitTakeSample s).LinksLawful := by
  unfold Sys2Proof.Machine.trigUnitTakeSample
  split
  · refine State.LinksLawful.trigUnitSample ?_ _
    exact h.congr rfl
  · exact h

/-! ## The transmitter -/

theorem LinkLaw.startFrame {k : LinkState} (h : LinkLaw k) (b : FrameBody) : LinkLaw (k.startFrame b) :=
  { h with
    outSeq := by
      have := h.outSeq
      cases b <;> simp only [LinkState.startFrame, LinkState.nextOutSeq] <;> omega }

theorem State.LinksLawful.askReadout (h : s.LinksLawful) : (askReadout l s).LinksLawful := by
  unfold Sys2Proof.Machine.askReadout
  split
  · rename_i v b hgiven
    refine State.LinksLawful.modLink (h.congr ?_) fun hk => hk.startFrame b
    unfold giveDelivery at hgiven
    repeat' split at hgiven
    all_goals simp only [reduceCtorEq, Option.some.injEq] at hgiven
    · rename_i d _
      obtain ⟨_, e⟩ := giveCurrent_only s l d
      rw [show v = (giveCurrent l d s).1 by rw [hgiven], e]
    · rename_i x rest _
      obtain ⟨_, e⟩ := giveEntry_only (s.modReadout l fun q => { q with queue := rest }) l x
      rw [show v = (giveEntry l x _).1 by rw [hgiven], e]
      rfl
  · exact h.modLink fun hk => { hk with }

theorem State.LinksLawful.chooseFrame (h : s.LinksLawful) : (chooseFrame l s).LinksLawful := by
  unfold Sys2Proof.Machine.chooseFrame
  dsimp only
  split
  · refine h.modLink fun hk => LinkLaw.startFrame ?_ _
    exact { hk with }
  · split
    · rename_i r rest hr
      refine h.modLink fun hk => LinkLaw.startFrame ?_ _
      refine { hk with replies := ?_, room := fun hin => ?_ }
      · have := hk.replies
        rw [hr, List.length_cons] at this
        exact Nat.le_of_succ_le this
      · have := hk.room hin
        rw [hr, List.length_cons] at this
        exact Nat.le_of_succ_le this
    · split
      · unfold chooseData
        split
        · exact h.askReadout
        · exact State.LinksLawful.congr (h.modLink (l := l) (f := fun k => { k with tx := .asking }) fun hk => { hk with }) rfl
      · refine h.modLink fun hk => LinkLaw.startFrame ?_ _
        exact { hk with notices := by simp [Notices.empty, Notices.isEmpty] }

theorem State.LinksLawful.frameSent (h : s.LinksLawful) : (frameSent l s).LinksLawful := by
  unfold Sys2Proof.Machine.frameSent
  split
  · have hidle : (s.modLink l fun k => { k with tx := .idle }).LinksLawful := h.modLink fun hk => { hk with }
    unfold afterFrame
    split
    · exact hidle.congr rfl
    · unfold afterReply
      repeat' split
      · exact hidle
      · exact hidle.endSession .bye
      · exact hidle
      · exact hidle.modLink fun hk => { hk with }
      · exact hidle.congr rfl
      · exact hidle
    · split
      · exact hidle.congr rfl
      · exact hidle
    · exact hidle
  · exact h

end

/-! ## The rows -/

/-- A link after a DEVICE-RESET meets its law (R162, R164). -/
theorem LinkState.afterReset_lawful (k : LinkState) (rate : Rate) : LinkLaw (k.afterReset rate) := { LinkState.reset_lawful with }

theorem exec_keeps_links {i : Instr} {s t : State} (hs : s.LinksLawful) (h : exec i s = .next t) : t.LinksLawful := by
  by_cases hr : .links ∈ reach i
  swap
  · exact hs.congr (exec_same h hr)
  revert h
  cases i
  case hello l seq => exact unlessHeld_keeps (P := State.LinksLawful) (commandRow_keeps_links helloOwner_links) hs
  case bye l seq => exact unlessHeld_keeps (P := State.LinksLawful) (commandRow_keeps_links byeOwner_links) hs
  case set l seq id v => exact unlessHeld_keeps (P := State.LinksLawful) (commandRow_keeps_links setOwner_links) hs
  case ping l seq => exact unlessHeld_keeps (P := State.LinksLawful) (commandRow_keeps_links_of_same fun h => by rw [pingOwner_only _ _ h]) hs
  case get => exact unlessHeld_keeps (P := State.LinksLawful) (commandRow_keeps_links_of_same fun h => by rw [getOwner_only _ _ _ h]) hs
  case snapshot => exact unlessHeld_keeps (P := State.LinksLawful) (commandRow_keeps_links_of_same fun h => by rw [snapshotOwner_only _ h]) hs
  case slotStatus => exact unlessHeld_keeps (P := State.LinksLawful) (commandRow_keeps_links_of_same fun h => by rw [slotStatusOwner_only _ _ _ h]) hs
  case faultsRead => exact unlessHeld_keeps (P := State.LinksLawful) (commandRow_keeps_links_of_same fun h => by rw [faultsReadOwner_only _ h]) hs
  case deviceReset =>
    refine unlessHeld_keeps (P := State.LinksLawful) (commandRow_keeps_links_of_same fun h => ?_) hs
    obtain ⟨_, rfl⟩ := deviceResetOwner_only _ _ _ h
    rfl
  case start =>
    refine unlessHeld_keeps (P := State.LinksLawful) (commandRow_keeps_links_of_same fun h => ?_) hs
    obtain ⟨_, _, _, _, _, _, _, _, rfl⟩ := startOwner_only _ h
    rfl
  case stop =>
    refine unlessHeld_keeps (P := State.LinksLawful) (commandRow_keeps_links_of_same fun h => ?_) hs
    obtain ⟨_, _, _, _, _, rfl⟩ := stopOwner_only _ h
    rfl
  case trigger =>
    refine unlessHeld_keeps (P := State.LinksLawful) (commandRow_keeps_links_of_same fun h => ?_) hs
    obtain ⟨_, _, rfl⟩ := triggerOwner_only _ _ h
    rfl
  case abort =>
    refine unlessHeld_keeps (P := State.LinksLawful) (commandRow_keeps_links_of_same fun h => ?_) hs
    obtain ⟨_, _, _, _, rfl⟩ := abortOwner_only _ _ _ _ h
    rfl
  case fetch =>
    refine unlessHeld_keeps (P := State.LinksLawful) (commandRow_keeps_links_of_same fun h => ?_) hs
    obtain ⟨_, _, rfl⟩ := fetchOwner_only _ _ _ _ _ h
    rfl
  case release =>
    refine unlessHeld_keeps (P := State.LinksLawful) (commandRow_keeps_links_of_same fun h => ?_) hs
    obtain ⟨_, _, _, rfl⟩ := releaseOwner_only _ _ _ _ h
    rfl
  case journalSubscribe =>
    refine unlessHeld_keeps (P := State.LinksLawful) (commandRow_keeps_links_of_same fun h => ?_) hs
    obtain ⟨_, rfl⟩ := subscribeOwner_only _ _ _ h
    rfl
  case journalAck =>
    refine unlessHeld_keeps (P := State.LinksLawful) (commandRow_keeps_links_of_same fun h => ?_) hs
    obtain ⟨_, rfl⟩ := ackOwner_only _ _ _ h
    rfl
  case journalRewind =>
    refine unlessHeld_keeps (P := State.LinksLawful) (commandRow_keeps_links_of_same fun h => ?_) hs
    obtain ⟨_, rfl⟩ := rewindOwner_only _ _ h
    rfl
  case journalUnsubscribe =>
    refine unlessHeld_keeps (P := State.LinksLawful) (commandRow_keeps_links_of_same fun h => ?_) hs
    obtain ⟨_, rfl⟩ := unsubscribeOwner_only _ _ h
    rfl
  case test =>
    refine unlessHeld_keeps (P := State.LinksLawful) (commandRow_keeps_links_of_same fun h => ?_) hs
    obtain ⟨_, _, _, rfl⟩ := testOwner_only _ _ _ _ _ _ _ _ _ h
    rfl
  case testCancel =>
    refine unlessHeld_keeps (P := State.LinksLawful) (commandRow_keeps_links_of_same fun h => ?_) hs
    obtain ⟨_, rfl⟩ := testCancelOwner_only _ h
    rfl
  case faultsClear =>
    refine unlessHeld_keeps (P := State.LinksLawful) (commandRow_keeps_links_of_same fun h => ?_) hs
    obtain ⟨_, rfl⟩ := faultsClearOwner_only _ _ h
    rfl
  case triggerUnitTakeSample => exact unlessHeld_keeps (P := State.LinksLawful) State.LinksLawful.trigUnitTakeSample hs
  case alertCountdownExpiry =>
    refine unlessHeld_keeps (P := State.LinksLawful) (fun hu => ?_) hs
    split
    · exact hu.trigUnitTakeSample
    · exact hu
  case faultRecord r =>
    refine unlessHeld_keeps (P := State.LinksLawful) (fun hu => ?_) hs
    unfold faultRecord
    split
    · exact hu
    · rename_i xs v hpop
      have hv : v.links = s.links := by
        unfold State.popFaults at hpop
        repeat' split at hpop
        all_goals
          simp only [reduceCtorEq, Option.some.injEq, Prod.mk.injEq] at hpop
          try rw [← hpop.2]; rfl
      have recorded : (v.setFaults (xs.foldl FaultLog.record v.faults)).LinksLawful := hu.congr hv
      exact recorded.notifyBoth _
  case journalFrameRequest l =>
    refine unlessHeld_keeps (P := State.LinksLawful) (fun hu => ?_) hs
    have dropped : (s.dropJournalLinkIn l).LinksLawful := hu.congr rfl
    unfold journalFrameRequest
    repeat' split
    · exact dropped.modLink fun hk => { hk with }
    · exact dropped.modLink fun hk => { hk with }
    · exact State.LinksLawful.modLink (s := (s.dropJournalLinkIn l).modJournal _) (dropped.congr rfl)
        fun hk => (LinkState.takeDueRate_lawful hk).startFrame _
    · exact hu
  case readoutTakeReady l =>
    refine unlessHeld_keeps (P := State.LinksLawful) (fun hu => ?_) hs
    unfold readoutTakeReady
    repeat' split
    · exact State.LinksLawful.notify (s := (s.dropReadoutIn l).modReadout l _) (hu.congr rfl) _
    · exact hu.congr rfl
    · exact State.LinksLawful.notify (s := s.dropReadoutIn l) (hu.congr rfl) _
    · exact hu
  case frameReceived l =>
    refine unlessHeld_keeps (P := State.LinksLawful) (fun hu => ?_) hs
    unfold frameReceived
    split
    · exact hu
    · rename_i f rest _
      have taken : (s.modLink l fun k => { k with complete := rest }).LinksLawful := hu.modLink fun hk => { hk with }
      dsimp only
      split
      · exact taken.goodFrame fun c hc => ((kind_body_of_readFrame hc).1).symm
      · exact State.LinksLawful.notify (taken.modLink fun hk => { hk with }) _
  case gapTimeout l =>
    refine unlessHeld_keeps (P := State.LinksLawful) (f := fun s => s.modLink l LinkState.gapTimeout) (fun hu => hu.modLink fun hk => ?_) hs
    unfold LinkState.gapTimeout
    split
    · exact hk
    · exact { hk with }
  case characterFramingError l w =>
    refine unlessHeld_keeps (P := State.LinksLawful) (f := fun s => s.modLink l fun k => k.framingError w) (fun hu => hu.modLink fun hk => ?_) hs
    unfold LinkState.framingError
    split
    · exact { hk with }
    · exact hk
  case characterReceived l c =>
    exact unlessHeld_keeps (P := State.LinksLawful) (f := fun s => s.modLink l fun k => k.takeCharacter c)
      (fun hu => hu.modLink fun hk => { hk with }) hs
  case linkRateTakeUp l =>
    exact unlessHeld_keeps (P := State.LinksLawful) (fun hu => hu.modLink LinkState.takeFreeRate_lawful) hs
  case lineBreak l w =>
    refine unlessHeld_keeps (P := State.LinksLawful) (fun hu => ?_) hs
    unfold lineBreaks
    split
    · exact State.LinksLawful.endSession (hu.modLink fun hk => { hk with }) _
    · exact hu
  case sessionTimeout l =>
    refine unlessHeld_keeps (P := State.LinksLawful) (fun hu => ?_) hs
    unfold sessionTimeout
    split
    · exact hu.endSession _
    · exact hu
  case frameSent l => exact unlessHeld_keeps (P := State.LinksLawful) State.LinksLawful.frameSent hs
  case transmitChoose l =>
    refine unlessHeld_keeps (P := State.LinksLawful) (fun hu => ?_) hs
    unfold transmitChoose
    split
    · exact (hu.modLink LinkState.takeDueRate_lawful).chooseFrame
    · exact hu
  case resetCarriedOut =>
    refine unlessHeld_keeps (P := State.LinksLawful) (resetCarriedOut_keeps fun keep _ l => ?_) hs
    cases l <;> exact LinkState.afterReset_lawful _ _
  case hardReset => exact fun h => exec_hardReset h ▸ fun l => by cases l <;> exact LinkState.reset_lawful
  all_goals simp [reach] at hr

theorem millisecond_keeps_links {s : State} (hs : s.LinksLawful) : (millisecond s).LinksLawful := by
  have passed (k : LinkState) (hk : LinkLaw k) : LinkLaw (if k.session.isSome then { k with sinceGood := k.sinceGood + 1 } else k) := by
    split
    · exact { hk with }
    · exact hk
  unfold millisecond
  split
  · exact hs
  · exact (hs.modLink (passed _)).modLink (passed _)

/-- Settles O14. -/
theorem linkLawIsKept : Obligations.LinkLawIsKept := by
  unfold Obligations.LinkLawIsKept
  exact step_keeps (P := State.LinksLawful) (ps := [.links]) (fun {s t} hsame hs => hs.congr (hsame .links (by simp))) (by simp)
    (fun _ s hs => millisecond_keeps_links hs) (fun i _ {s t} hs h => exec_keeps_links hs h)

end Sys2Proof.Machine
end

section
/-! SUPPORT. Every row keeps the delivery queues within their eight places (O11). -/

-- One theorem at a time: the proofs of so long a text would each hold a thread.
set_option Elab.async false

namespace Sys2Proof.Machine

/-- Every readout unit meets its law. -/
def State.ReadoutsLawful (s : State) : Prop := ∀ l, ReadoutLaw (s.readouts.get l)

section
variable {s t u : State} {l : Link}

theorem State.ReadoutsLawful.congr (h : s.ReadoutsLawful) (e : t.readouts = s.readouts) : t.ReadoutsLawful := fun l => by rw [e]; exact h l

theorem State.ReadoutsLawful.modReadout (h : s.ReadoutsLawful) {f : Readout → Readout} (hf : ReadoutLaw (s.readouts.get l) → ReadoutLaw (f (s.readouts.get l))) :
    (s.modReadout l f).ReadoutsLawful := by
  intro m
  rw [State.modReadout_readouts, PerLink.get_set]
  split
  · exact hf (h l)
  · exact h m

/-- A FETCH that is not refused finds a free place (R106). -/
theorem Readout.placesUsed_of_fetchRefusal {q : Readout} {i : Fin 8} (h : fetchRefusal q i = none) : q.queue.length + q.reserved.length < 8 := by
  unfold fetchRefusal at h
  repeat' split at h
  all_goals first
    | contradiction
    | rename_i hfull
      simpa [Readout.placesUsed, Config.deliveryPlaces] using hfull

theorem tableTakeFetch_readouts {i : Fin 8} {claim : Bool} {fromPart : Nat} (hs : s.ReadoutsLawful) (hi : fetchRefusal (s.readouts.get l) i = none) :
    (tableTakeFetch l i claim fromPart s).1.ReadoutsLawful := by
  have hroom := Readout.placesUsed_of_fetchRefusal hi
  have pending (c : Capture) : (fetchPending l i c claim fromPart s).1.ReadoutsLawful := by
    unfold fetchPending
    split
    · exact hs
    · refine State.ReadoutsLawful.modReadout ?_ fun _ => ?_
      · exact hs.congr rfl
      simp only [ReadoutLaw, State.modTable_readouts, List.length_append, List.length_singleton]
      omega
  have queued (c : Capture) (p : Phase) : (fetchQueued l i c p fromPart s).1.ReadoutsLawful := by
    refine State.ReadoutsLawful.modReadout ?_ fun _ => ?_
    · exact hs.congr rfl
    simp only [ReadoutLaw, State.modTable_readouts, List.length_append, List.length_singleton]
    omega
  unfold tableTakeFetch
  repeat' split
  all_goals first
    | exact hs
    | exact pending _
    | exact queued _ _

theorem fetchOwner_readouts {slot claim fromPart : Byte} {body : ReplyBody} {after : AfterReply} (hs : s.ReadoutsLawful)
    (h : fetchOwner l slot claim fromPart s = some (t, body, after)) : t.ReadoutsLawful := by
  unfold fetchOwner at h
  repeat' split at h
  all_goals first
    | contradiction
    | simp only [Option.some.injEq, Prod.mk.injEq] at h
      obtain ⟨rfl, -, -⟩ := h
      first
        | exact hs
        | exact tableTakeFetch_readouts hs ‹_›

theorem Readout.takeApplied_lawful {q : Readout} (h : ReadoutLaw q) (i : Fin 8) (serial : Nat) (applied : Option PendingFetch) :
    ReadoutLaw (q.takeApplied l i serial applied) := by
  unfold Readout.takeApplied
  split
  · split
    · rename_i hres
      have hpos := List.length_pos_of_mem hres.2
      have hlen := List.length_erase_of_mem hres.2
      unfold ReadoutLaw at h ⊢
      simp only [List.length_append, List.length_singleton, hlen]
      omega
    · exact h
  · exact h

theorem Readout.takeRelease_lawful {q : Readout} (h : ReadoutLaw q) (i : Fin 8) (serial : Nat) : ReadoutLaw (q.takeRelease i serial) := by
  simpa [ReadoutLaw, Readout.takeRelease] using h

theorem Readout.takeAbort_lawful {q : Readout} (h : ReadoutLaw q) (i : Fin 8) (serial : Nat) : ReadoutLaw (q.takeAbort i serial) := by
  unfold Readout.takeAbort
  dsimp only
  split
  · rename_i hres
    have hpos := List.length_pos_of_mem hres
    have hlen := List.length_erase_of_mem hres
    unfold ReadoutLaw at h ⊢
    simp only [Readout.takeRelease, List.length_append, List.length_singleton, List.length_map, hlen]
    omega
  · exact Readout.takeRelease_lawful h i serial

theorem giveCurrent_readouts (hs : s.ReadoutsLawful) (d : Delivery) : (giveCurrent l d s).1.ReadoutsLawful := by
  unfold giveCurrent State.setCurrent
  repeat' split
  all_goals exact hs.modReadout fun h => h

theorem giveEntry_readouts (hs : s.ReadoutsLawful) (x : QueueEntry) : (giveEntry l x s).1.ReadoutsLawful := by
  unfold giveEntry State.setCurrent
  repeat' split
  all_goals first
    | exact hs
    | exact hs.modReadout fun h => h

theorem giveDelivery_readouts {b : FrameBody} (hs : s.ReadoutsLawful) (h : giveDelivery l s = some (t, b)) : t.ReadoutsLawful := by
  unfold giveDelivery at h
  repeat' split at h
  all_goals simp only [reduceCtorEq, Option.some.injEq] at h
  · rename_i d _
    have e : t = (giveCurrent l d s).1 := by rw [h]
    exact e ▸ giveCurrent_readouts hs d
  · rename_i x rest hq
    have dropped : (s.modReadout l fun q => { q with queue := rest }).ReadoutsLawful := hs.modReadout fun hk => by
      unfold ReadoutLaw at hk ⊢
      rw [hq, List.length_cons] at hk
      dsimp only
      omega
    have e : t = (giveEntry l x (s.modReadout l fun q => { q with queue := rest })).1 := by rw [h]
    exact e ▸ giveEntry_readouts dropped x

theorem askReadout_readouts (hs : s.ReadoutsLawful) : (askReadout l s).ReadoutsLawful := by
  unfold askReadout
  split
  · rename_i v b hgiven
    exact (giveDelivery_readouts hs hgiven).congr rfl
  · exact hs.congr rfl

theorem transmitChoose_readouts (hs : s.ReadoutsLawful) : (transmitChoose l s).ReadoutsLawful := by
  have ready : (s.modLink l LinkState.takeDueRate).ReadoutsLawful := hs.congr rfl
  unfold transmitChoose chooseFrame chooseData
  dsimp only
  repeat' split
  all_goals first
    | exact hs
    | exact askReadout_readouts ready

end

/-- Settles O11. -/
theorem deliveryPlacesAreNeverExceeded : Obligations.DeliveryPlacesAreNeverExceeded := by
  unfold Obligations.DeliveryPlacesAreNeverExceeded
  refine step_keeps (P := State.ReadoutsLawful) (ps := [.readouts]) (fun {s t} hsame hs => hs.congr (hsame .readouts (by simp))) (by simp) (by simp) ?_
  rintro i ⟨p, hp, hr⟩ s t hs
  obtain rfl : p = .readouts := by simpa using hp
  cases i
  case fetch l seq slot claim fromPart =>
    exact commandRow_keeps (P := State.ReadoutsLawful) (fun _ h => h.congr rfl) fetchOwner_readouts hs
  case readoutTakeReady l =>
    refine unlessHeld_keeps (P := State.ReadoutsLawful) (fun hu => ?_) hs
    unfold readoutTakeReady
    split
    · rename_i i serial source applied _ _
      have dropped : (s.dropReadoutIn l).ReadoutsLawful := hu.congr rfl
      have taken := dropped.modReadout (l := l) (f := fun q => q.takeApplied l i serial applied) fun h => Readout.takeApplied_lawful h _ _ _
      dsimp only
      split
      · rw [State.notify_eq]
        exact taken.congr rfl
      · exact taken
    · rw [State.notify_eq]
      exact hu.congr rfl
    · exact hu
  case readoutTakeAbort l =>
    refine unlessHeld_keeps (P := State.ReadoutsLawful) (fun hu => ?_) hs
    unfold readoutTakeAbort
    split
    · refine State.ReadoutsLawful.modReadout ?_ fun h => Readout.takeAbort_lawful h _ _
      exact hu.congr rfl
    · exact hu
  case readoutTakeRelease l =>
    refine unlessHeld_keeps (P := State.ReadoutsLawful) (fun hu => ?_) hs
    unfold readoutTakeRelease
    split
    · refine State.ReadoutsLawful.modReadout ?_ fun h => Readout.takeRelease_lawful h _ _
      exact hu.congr rfl
    · exact hu
  case readoutTakeSessionEnd l =>
    refine unlessHeld_keeps (P := State.ReadoutsLawful) (fun hu => ?_) hs
    unfold readoutTakeSessionEnd
    split
    · exact hu
    · exact State.ReadoutsLawful.congr (hu.modReadout (l := l) (f := fun _ => Readout.reset) fun _ => by simp [ReadoutLaw, Readout.reset]) rfl
  case transmitChoose l => exact unlessHeld_keeps (P := State.ReadoutsLawful) transmitChoose_readouts hs
  case resetCarriedOut =>
    exact unlessHeld_keeps (P := State.ReadoutsLawful) (resetCarriedOut_keeps fun keep _ l => State.reset_readouts_lawful l) hs
  case hardReset => exact fun h => exec_hardReset h ▸ fun l => State.reset_readouts_lawful l
  all_goals simp [reach] at hr

end Sys2Proof.Machine
end

section
/-! SUPPORT. Every row keeps the laws of the journal, its subscribers and the fault log (O13). The seqs held run from the oldest on, so that the
distance of R126 counts entries; an append leaves every distance, a removal of n entries takes n off those that are not among the removed. -/

-- One theorem at a time: the proofs of so long a text would each hold a thread.
set_option Elab.async false

namespace Sys2Proof.Machine

/-! ## Seqs and distances -/

theorem nextSeq32_iterate {m : Nat} (hm : m < 4294967296) (n : Nat) : nextSeq32^[n] m = wrap32 (m + n) := by
  induction n with
  | zero => simp only [Function.iterate_zero, id, wrap32]; omega
  | succ n ih =>
    rw [Function.iterate_succ_apply', ih]
    simp only [nextSeq32, wrap32]
    omega

section
variable {j : Journal}

theorem Journal.oldest_eq_headD (j : Journal) : j.oldest = (j.entries.map (·.seq)).headD j.nextSeq := by
  unfold Journal.oldest
  cases j.entries <;> rfl

theorem JournalLaw.oldest_lt (h : JournalLaw j) : j.oldest < 4294967296 := by
  unfold Journal.oldest
  cases he : j.entries with
  | nil => exact h.next
  | cons e rest => exact h.seqs e (by simp [he])

theorem JournalLaw.oldest_drop (h : JournalLaw j) {n : Nat} (hn : n ≤ j.entries.length) :
    ({ j with entries := j.entries.drop n } : Journal).oldest = wrap32 (j.oldest + n) := by
  have hhead := runsTo_headD_drop h.consecutive n (by simpa using hn)
  rw [← Journal.oldest_eq_headD, nextSeq32_iterate h.oldest_lt] at hhead
  rw [← hhead, Journal.oldest_eq_headD, List.map_drop]

theorem JournalLaw.nextSeq_eq (h : JournalLaw j) : j.nextSeq = wrap32 (j.oldest + j.entries.length) := by
  rw [← h.oldest_drop (Nat.le_refl _)]
  simp [Journal.oldest]

theorem JournalLaw.distance_drop (h : JournalLaw j) {n seq : Nat} (hn : n ≤ j.entries.length) (hd : n ≤ j.distance seq) :
    ({ j with entries := j.entries.drop n } : Journal).distance seq = j.distance seq - n := by
  have hlen := h.size
  have hold := h.oldest_lt
  unfold Journal.distance at hd ⊢
  rw [h.oldest_drop hn]
  simp only [wrap32] at hd ⊢
  omega

theorem Journal.push_distance (j : Journal) (e : NewEntry) (seq : Nat) : (j.push e).distance seq = j.distance seq := by
  unfold Journal.distance Journal.push Journal.oldest
  cases j.entries <;> rfl

/-- A seq that comes some places after another is that many further on. -/
theorem Journal.distance_add {seq k : Nat} (hk : j.distance seq + k < 4294967296) : j.distance (wrap32 (seq + k)) = j.distance seq + k := by
  unfold Journal.distance at hk ⊢
  simp only [wrap32] at hk ⊢
  omega

theorem JournalLaw.distance_oldest (h : JournalLaw j) : j.distance j.oldest = 1 := by
  have := h.oldest_lt
  simp only [Journal.distance, wrap32]
  omega

theorem JournalLaw.distance_prev (h : JournalLaw j) {seq : Nat} (hd : 1 ≤ j.distance seq) :
    j.distance (prevSeq seq) = j.distance seq - 1 := by
  have := h.oldest_lt
  simp only [Journal.distance, prevSeq, wrap32] at hd ⊢
  omega

theorem JournalLaw.distance_nextSeq (h : JournalLaw j) : j.distance j.nextSeq = j.entries.length + 1 := by
  have := h.oldest_lt
  have := h.size
  rw [h.nextSeq_eq]
  simp only [Journal.distance, wrap32]
  omega

/-! ## The journal's changes -/

theorem SubscriberLaw.moved {i : Journal} {x : Subscriber} (h : SubscriberLaw j x) {n : Nat} (hn : n ≤ j.distance x.acked)
    (hd : ∀ seq, n ≤ j.distance seq → i.distance seq = j.distance seq - n) (hlen : j.entries.length ≤ i.entries.length + n) : SubscriberLaw i x := by
  have horder := h.order
  have hheld := h.held
  have hcredit := h.credit
  have ha := hd x.acked hn
  have hc := hd x.cursor (by omega)
  refine { acked := h.acked, cursor := h.cursor, order := by omega, held := by omega, credit := by omega, flight := fun f k hf => ?_ }
  have := h.flight f k hf
  omega

theorem JournalLaw.pushed (h : JournalLaw j) (hlen : j.entries.length < 1024) (e : NewEntry) : JournalLaw (j.push e) where
  size := by simp [Journal.push]; omega
  next := by simp only [Journal.push, wrap32]; omega
  consecutive := by
    simp only [Journal.push, List.map_append, List.map_cons, List.map_nil]
    exact runsTo_append h.consecutive rfl
  seqs x hx := by
    obtain hx | rfl := by simpa [Journal.push] using hx
    · exact h.seqs x hx
    · exact h.next
  loss := h.loss
  lost := h.lost
  full hloss := absurd (h.full hloss) (by omega)
  subscribers l x hx := (h.subscribers l x hx).moved (n := 0) (by omega) (fun seq _ => j.push_distance e seq) (by simp [Journal.push])

theorem JournalLaw.cleared (h : JournalLaw j) : JournalLaw j.clearLoss :=
  { h with
    loss := by simp [Journal.clearLoss]
    lost := ⟨rfl, rfl⟩
    full := fun e => absurd rfl e
    subscribers := fun l x hx => { h.subscribers l x hx with } }

/-- The oldest `n` entries leave: none that a subscriber still needs, and none while losses are counted. -/
theorem JournalLaw.dropped (h : JournalLaw j) {n : Nat} (hloss : n = 0 ∨ j.lossCount = 0) (hlen : n ≤ j.entries.length)
    (hn : ∀ l x, j.subs.get l = some x → n ≤ j.distance x.acked) : JournalLaw { j with entries := j.entries.drop n } where
  size := by
    have := h.size
    simp only [List.length_drop]
    omega
  next := h.next
  consecutive := by
    rw [List.map_drop]
    exact runsTo_drop h.consecutive n
  seqs x hx := h.seqs x (List.mem_of_mem_drop hx)
  loss := h.loss
  lost := h.lost
  full hne := by
    obtain rfl | hz := hloss
    · exact h.full hne
    · exact absurd hz hne
  subscribers l x hx := (h.subscribers l x hx).moved (hn l x hx) (fun seq hd => h.distance_drop hlen hd) (by simp only [List.length_drop]; omega)

theorem JournalLaw.lastTick (h : JournalLaw j) (t : Option Nat) : JournalLaw { j with lastTick := t } :=
  { h with subscribers := fun l x hx => { h.subscribers l x hx with } }

theorem JournalLaw.setSub (h : JournalLaw j) (l : Link) {o : Option Subscriber} (ho : ∀ x, o = some x → SubscriberLaw j x) : JournalLaw (j.setSub l o) :=
  { h with
    subscribers := fun m x hx => by
      simp only [Journal.setSub, PerLink.get_set] at hx
      split at hx
      · exact { ho x hx with }
      · exact { h.subscribers m x hx with } }

/-! ## Appending (R131, R132) -/

theorem Journal.subs_of_not_subscribed (h : j.subscribed = false) (l : Link) : j.subs.get l = none := by
  simp only [Journal.subscribed, Bool.or_eq_false_iff, Option.isSome_eq_false_iff, Option.isNone_iff_eq_none] at h
  cases l
  · exact h.1
  · exact h.2

theorem JournalLaw.madeRoom (h : JournalLaw j) (hloss : j.lossCount = 0) (hsub : j.subscribed = false) :
    JournalLaw j.makeRoom ∧ j.makeRoom.entries.length < 1024 := by
  have hsize := h.size
  unfold Journal.makeRoom
  split
  · rename_i hroom
    exact ⟨h, hroom⟩
  · rename_i hfull
    have hfull : ¬ j.entries.length < 1024 := hfull
    refine ⟨h.dropped (.inr hloss) (by omega) fun l x hx => ?_, by simp only [List.length_drop]; omega⟩
    rw [Journal.subs_of_not_subscribed hsub] at hx
    contradiction

theorem Journal.settleLoss_eq (j : Journal) (now : Nat) :
    j.settleLoss now = if j.lossCount = 0 then j else j.clearLoss.makeRoom.push (j.lossEntry now) := by
  unfold Journal.settleLoss Journal.makeRoom
  split
  · rfl
  · show Journal.clearLoss (Journal.push (if j.entries.length < _ then _ else _) _) = _
    split
    · rename_i hroom
      rw [if_pos (show j.clearLoss.entries.length < Config.journalEntries from hroom)]; rfl
    · rename_i hroom
      rw [if_neg (show ¬ j.clearLoss.entries.length < Config.journalEntries from hroom)]; rfl

theorem JournalLaw.settled (h : JournalLaw j) (hsub : j.subscribed = false) (now : Nat) :
    JournalLaw (j.settleLoss now) ∧ (j.settleLoss now).lossCount = 0 ∧ (j.settleLoss now).subscribed = false := by
  rw [Journal.settleLoss_eq]
  split
  · rename_i hz
    exact ⟨h, hz, hsub⟩
  · obtain ⟨hroom, hlen⟩ := h.cleared.madeRoom rfl hsub
    refine ⟨hroom.pushed hlen _, ?_, ?_⟩
    · unfold Journal.makeRoom; split <;> rfl
    · unfold Journal.makeRoom; split <;> exact hsub

theorem JournalLaw.appended (h : JournalLaw j) (now : Nat) (e : NewEntry) : JournalLaw (j.append now e) := by
  unfold Journal.append
  split
  · unfold Journal.subscribedAppend
    split
    · rename_i hroom
      exact h.pushed hroom e
    · rename_i hfull
      have hfull : ¬ j.entries.length < 1024 := hfull
      have hsize := h.size
      refine { h with loss := ?_, lost := ?_, full := fun _ => ?_, subscribers := fun l x hx => { h.subscribers l x hx with } }
      · simp only [Journal.lose]; omega
      · have hne : min 4294967295 (j.lossCount + 1) ≠ 0 := by omega
        have hlost := h.lost.1
        simp only [Journal.lose, hne, ne_eq, not_false_eq_true, decide_true, Option.isSome_some, and_true]
        split
        · rfl
        · simp_all
      · show j.entries.length = 1024
        omega
  · rename_i hsub
    obtain ⟨hs, hz, hn⟩ := h.settled (by simpa using hsub) now
    obtain ⟨hroom, hlen⟩ := hs.madeRoom hz hn
    exact hroom.pushed hlen e

theorem JournalLaw.appendedAll (h : JournalLaw j) (now : Nat) (es : List NewEntry) : JournalLaw (j.appendAll now es) := by
  unfold Journal.appendAll
  induction es generalizing j with
  | nil => exact h
  | cons e rest ih => exact ih (h.appended now e)

/-! ## Removal (R133) -/

theorem Journal.ackDistance_le {l : Link} {x : Subscriber} (h : j.subs.get l = some x) : j.ackDistance ≤ j.distance x.acked := by
  unfold Journal.ackDistance
  cases l <;> simp only [PerLink.get] at h <;> rw [h] <;> split <;> simp_all

theorem JournalLaw.removedAcked (h : JournalLaw j) (now : Nat) : JournalLaw (j.removeAcked now) := by
  have hacked : ∀ l x, j.subs.get l = some x → min j.ackDistance j.entries.length ≤ j.distance x.acked := fun l x hx =>
    Nat.le_trans (Nat.min_le_left _ _) (Journal.ackDistance_le hx)
  unfold Journal.removeAcked
  dsimp only
  split
  · rename_i hloss
    exact h.dropped hloss (Nat.min_le_right _ _) hacked
  · rename_i hloss
    have hdrop := h.cleared.dropped (n := min j.ackDistance j.entries.length) (.inr rfl) (Nat.min_le_right _ _) hacked
    have hsize := h.size
    refine hdrop.pushed ?_ (j.lossEntry now)
    simp only [Journal.clearLoss, List.length_drop]
    omega

/-! ## Subscribers -/

theorem JournalLaw.newSubscriber (h : JournalLaw j) (fromOldest : Bool) : SubscriberLaw j (j.newSubscriber fromOldest) := by
  have hold := h.oldest_lt
  have hnext := h.next
  have h1 := h.distance_oldest
  have h2 := h.distance_nextSeq
  have h3 := h.distance_prev (seq := j.oldest) (by omega)
  have h4 := h.distance_prev (seq := j.nextSeq) (by omega)
  have lt (n : Nat) : prevSeq n < 4294967296 := by simp only [prevSeq, wrap32]; omega
  cases fromOldest
  · constructor <;> simp only [Journal.newSubscriber, Journal.newest, Bool.false_eq_true, ↓reduceIte, reduceCtorEq, false_implies, implies_true]
    all_goals first
      | omega
      | exact lt _
  · constructor <;> simp only [Journal.newSubscriber, ↓reduceIte, reduceCtorEq, false_implies, implies_true]
    all_goals first
      | omega
      | exact lt _

theorem SubscriberLaw.acknowledged {x : Subscriber} (h : SubscriberLaw j x) {seq : Nat} (hseq : seq < 4294967296) (hmay : j.mayAck x seq = true) :
    SubscriberLaw j { x with acked := seq } := by
  simp only [Journal.mayAck, Bool.and_eq_true, decide_eq_true_eq] at hmay
  have := h.credit
  refine { h with acked := hseq, order := hmay.2, credit := ?_, flight := fun f k hf => ?_ }
  · dsimp only; omega
  · have := h.flight f k hf
    dsimp only
    omega

theorem SubscriberLaw.rewound {x : Subscriber} (h : JournalLaw j) (hx : SubscriberLaw j x) : SubscriberLaw j x.rewound := by
  have hsize := h.size
  have horder := hx.order
  have hheld := hx.held
  have hd := j.distance_add (seq := x.acked) (k := 1) (by omega)
  refine { acked := hx.acked, cursor := ?_, order := ?_, held := ?_, credit := ?_, flight := by simp [Subscriber.rewound] }
  · simp only [Subscriber.rewound, wrap32]; omega
  all_goals
    simp only [Subscriber.rewound, hd]
    omega

theorem SubscriberLaw.completed {x : Subscriber} (h : JournalLaw j) (hx : SubscriberLaw j x) : SubscriberLaw j x.completed := by
  unfold Subscriber.completed
  split
  · rename_i first k hf
    have hsize := h.size
    have horder := hx.order
    obtain ⟨rfl, hk⟩ := hx.flight first k hf
    have hd := j.distance_add (seq := x.cursor) (k := k) (by omega)
    refine { acked := hx.acked, cursor := ?_, order := ?_, held := ?_, credit := ?_, flight := by simp }
    · simp only [wrap32]; omega
    all_goals
      simp only [hd]
      omega
  · exact hx

theorem Journal.frameSize_pos {x : Subscriber} (hk : j.frameSize x ≠ 0) : j.distance x.cursor ≤ j.entries.length ∧ j.outstanding x < 64 ∧
    j.frameSize x = min 16 (min (j.entries.length + 1 - j.distance x.cursor) (64 - j.outstanding x)) := by
  unfold Journal.frameSize at hk ⊢
  split at hk
  · rename_i hroom
    rw [if_pos hroom]
    simp only [Bool.and_eq_true, decide_eq_true_eq] at hroom
    exact ⟨hroom.1.2, hroom.2, rfl⟩
  · contradiction

theorem SubscriberLaw.given {x : Subscriber} (hx : SubscriberLaw j x) (hk : j.frameSize x ≠ 0) :
    SubscriberLaw j { x with inFlight := some (x.cursor, j.frameSize x) } := by
  refine { hx with flight := fun f k hf => ?_ }
  simp only [Option.some.injEq, Prod.mk.injEq] at hf
  obtain ⟨rfl, rfl⟩ := hf
  have horder := hx.order
  obtain ⟨hheld, hcredit, hsize⟩ := Journal.frameSize_pos hk
  simp only [Journal.outstanding] at hcredit hsize
  refine ⟨rfl, ?_⟩
  dsimp only
  omega

theorem JournalLaw.unsubscribed (h : JournalLaw j) (l : Link) (now : Nat) : JournalLaw (j.unsubscribe l now) := by
  have left := h.setSub l (o := none) (by simp)
  unfold Journal.unsubscribe
  dsimp only
  split
  · exact left.removedAcked now
  · exact left

end

/-! ## The rows of the journal -/

theorem State.journalLaw_congr {s t : State} (h : JournalLaw s.journal) (e : t.journal = s.journal) : JournalLaw t.journal := by rwa [e]

theorem exec_keeps_journal {i : Instr} {s t : State} (hs : JournalLaw s.journal) (h : exec i s = .next t) : JournalLaw t.journal := by
  by_cases hr : .journal ∈ reach i
  swap
  · exact State.journalLaw_congr hs (exec_same h hr)
  revert h
  cases i
  case journalSubscribe l seq position =>
    refine commandRow_keeps (P := fun s => JournalLaw s.journal) (fun _ h => h) (fun {u t body after} hu h => ?_) hs
    unfold subscribeOwner at h
    repeat' split at h
    all_goals try contradiction
    all_goals
      simp only [Option.some.injEq, Prod.mk.injEq] at h
      obtain ⟨rfl, -, -⟩ := h
    · exact hu
    · exact hu
    · exact hu.setSub l fun x hx => Option.some.inj hx ▸ hu.newSubscriber _
  case journalAck l seq upTo =>
    refine commandRow_keeps (P := fun s => JournalLaw s.journal) (fun _ h => h) (fun {u t body after} hu h => ?_) hs
    unfold ackOwner at h
    repeat' split at h
    all_goals try contradiction
    all_goals
      simp only [Option.some.injEq, Prod.mk.injEq] at h
      obtain ⟨rfl, -, -⟩ := h
    · exact hu
    · rename_i x hx hmay
      refine JournalLaw.removedAcked (hu.setSub l fun y hy => ?_) _
      exact Option.some.inj hy ▸ (hu.subscribers l x hx).acknowledged upTo.isLt hmay
    · exact hu
  case journalRewind l seq =>
    refine commandRow_keeps (P := fun s => JournalLaw s.journal) (fun _ h => h) (fun {u t body after} hu h => ?_) hs
    unfold rewindOwner at h
    repeat' split at h
    all_goals try contradiction
    all_goals
      simp only [Option.some.injEq, Prod.mk.injEq] at h
      obtain ⟨rfl, -, -⟩ := h
    · exact hu
    · rename_i x hx
      exact hu.setSub l fun y hy => Option.some.inj hy ▸ (hu.subscribers l x hx).rewound hu
  case journalUnsubscribe l seq =>
    refine commandRow_keeps (P := fun s => JournalLaw s.journal) (fun _ h => h) (fun {u t body after} hu h => ?_) hs
    unfold unsubscribeOwner at h
    repeat' split at h
    all_goals try contradiction
    all_goals
      simp only [Option.some.injEq, Prod.mk.injEq] at h
      obtain ⟨rfl, -, -⟩ := h
    · exact hu
    · exact hu.unsubscribed l _
  case journalTakeSample =>
    refine unlessHeld_keeps (P := fun s => JournalLaw s.journal) (fun hu => ?_) hs
    unfold journalTakeSample
    split
    · exact (hu.lastTick _).appendedAll _ _
    · exact hu
  case journalRunStart =>
    refine unlessHeld_keeps (P := fun s => JournalLaw s.journal) (fun hu => ?_) hs
    unfold journalRunStart
    split
    · exact hu.appended _ _
    · exact hu
  case journalRunStop =>
    refine unlessHeld_keeps (P := fun s => JournalLaw s.journal) (fun hu => ?_) hs
    unfold journalRunStop
    split
    · exact hu.appended _ _
    · exact hu
  case journalTakeTriggerEntry g =>
    refine unlessHeld_keeps (P := fun s => JournalLaw s.journal) (fun hu => ?_) hs
    unfold journalTakeTriggerEntry
    split
    · exact hu
    · rename_i x v hpop
      have hv : v.journal = s.journal := by
        unfold State.popTriggerEntry at hpop
        repeat' split at hpop
        all_goals
          simp only [reduceCtorEq, Option.some.injEq, Prod.mk.injEq] at hpop
          try rw [← hpop.2]; rfl
      exact (State.journalLaw_congr hu hv).appended _ _
  case journalFrameRequest l =>
    refine unlessHeld_keeps (P := fun s => JournalLaw s.journal) (fun hu => ?_) hs
    unfold journalFrameRequest
    dsimp only
    repeat' split
    · exact hu
    · exact hu
    · rename_i x hx hk
      exact hu.setSub l fun y hy => Option.some.inj hy ▸ (hu.subscribers l x hx).given hk
    · exact hu
  case journalFrameCompletion l =>
    refine unlessHeld_keeps (P := fun s => JournalLaw s.journal) (fun hu => ?_) hs
    unfold journalFrameCompletion
    split
    · refine hu.setSub l fun y hy => ?_
      obtain ⟨x, hx, rfl⟩ := Option.map_eq_some_iff.1 hy
      exact (hu.subscribers l x hx).completed hu
    · exact hu
  case journalTakeSessionEnd l =>
    refine unlessHeld_keeps (P := fun s => JournalLaw s.journal) (fun hu => ?_) hs
    unfold journalTakeSessionEnd
    split
    · show JournalLaw (if (s.journal.subs.get l).isSome then s.journal.unsubscribe l s.journalNow else s.journal)
      split
      · exact hu.unsubscribed l _
      · exact hu
    · exact hu
  case resetCarriedOut =>
    exact unlessHeld_keeps (P := fun s => JournalLaw s.journal) (resetCarriedOut_keeps (P := fun s => JournalLaw s.journal) fun keep _ => Journal.reset_lawful) hs
  case hardReset => exact fun h => exec_hardReset h ▸ Journal.reset_lawful
  all_goals simp [reach] at hr

/-! ## The fault log -/

section
variable {f : FaultLog}

theorem next65535_range (n : Nat) : 1 ≤ next65535 n ∧ next65535 n ≤ 65535 := by unfold next65535; split <;> omega

theorem FaultLaw.recorded (h : FaultLaw f) (x : FaultReport) : FaultLaw (f.record x) := by
  have hsize := h.size
  unfold FaultLog.record
  split
  · rename_i hroom
    have hroom : f.records.length < 4 := hroom
    refine
      { size := by simp only [List.length_append, List.length_singleton]; omega
        consecutive := ?_
        seqs := fun r hr => ?_
        next := next65535_range _
        lost := ⟨h.lost.1, by simp⟩ }
    · rw [List.map_append]
      exact runsTo_append h.consecutive rfl
    · obtain hr | rfl := by simpa using hr
      · exact h.seqs r hr
      · exact h.next
  · rename_i hfull
    have hfull : ¬ f.records.length < 4 := hfull
    refine { h with lost := ⟨Nat.min_le_left _ _, fun hempty => absurd ?_ hfull⟩ }
    rw [show f.records = [] from hempty]
    decide

theorem FaultLaw.recordedAll (h : FaultLaw f) (xs : List FaultReport) : FaultLaw (xs.foldl FaultLog.record f) := by
  induction xs generalizing f with
  | nil => exact h
  | cons x rest ih => exact ih (h.recorded x)

theorem FaultLaw.removed (h : FaultLaw f) (n : Nat) : FaultLaw (f.remove n) := by
  have hsize := h.size
  refine
    { size := by simp only [FaultLog.remove, List.length_drop]; omega
      consecutive := by
        simp only [FaultLog.remove, List.map_drop]
        exact runsTo_drop h.consecutive n
      seqs := fun r hr => h.seqs r (List.mem_of_mem_drop hr)
      next := h.next
      lost := ?_ }
  have hlost := h.lost
  simp only [FaultLog.remove]
  split
  · exact ⟨by omega, fun _ => rfl⟩
  · rename_i hleft
    refine ⟨hlost.1, fun hempty => hlost.2 ?_⟩
    obtain rfl : n = 0 := by
      by_contra hn
      exact hleft ⟨hn, hempty⟩
    simpa using hempty

end

theorem exec_keeps_faults {i : Instr} {s t : State} (hs : FaultLaw s.faults) (h : exec i s = .next t) : FaultLaw t.faults := by
  by_cases hr : .faults ∈ reach i
  swap
  · rwa [show t.faults = s.faults from exec_same h hr]
  revert h
  cases i
  case faultsClear l seq upTo =>
    refine commandRow_keeps (P := fun s => FaultLaw s.faults) (fun _ h => h) (fun {u t body after} hu h => ?_) hs
    simp only [faultsClearOwner, Option.some.injEq, Prod.mk.injEq] at h
    obtain ⟨rfl, -, -⟩ := h
    exact hu.removed _
  case faultRecord r =>
    refine unlessHeld_keeps (P := fun s => FaultLaw s.faults) (fun hu => ?_) hs
    unfold faultRecord
    split
    · exact hu
    · rename_i xs v hpop
      have hv : v.faults = s.faults := by
        unfold State.popFaults at hpop
        repeat' split at hpop
        all_goals
          simp only [reduceCtorEq, Option.some.injEq, Prod.mk.injEq] at hpop
          try rw [← hpop.2]; rfl
      obtain ⟨_, e⟩ := notifyBoth_only (v.setFaults (xs.foldl FaultLog.record v.faults)) fun n => { n with fault := true }
      rw [recordFaults, e]
      show FaultLaw (xs.foldl FaultLog.record v.faults)
      rw [hv]
      exact hu.recordedAll xs
  case resetCarriedOut =>
    exact unlessHeld_keeps (P := fun s => FaultLaw s.faults) (resetCarriedOut_keeps (P := fun s => FaultLaw s.faults) fun keep _ => FaultLog.reset_lawful) hs
  case hardReset => exact fun h => exec_hardReset h ▸ FaultLog.reset_lawful
  all_goals simp [reach] at hr

/-- Settles O13. -/
theorem journalAndFaultLogLawsAreKept : Obligations.JournalAndFaultLogLawsAreKept := by
  unfold Obligations.JournalAndFaultLogLawsAreKept
  refine step_keeps (P := fun s => JournalLaw s.journal ∧ FaultLaw s.faults) (ps := [.journal, .faults]) (fun {s t} hsame hs => ?_) (by simp) (by simp)
    (fun i _ {s t} hs h => ⟨exec_keeps_journal hs.1 h, exec_keeps_faults hs.2 h⟩)
  have hj : t.journal = s.journal := hsame .journal (by simp)
  have hf : t.faults = s.faults := hsame .faults (by simp)
  rwa [hj, hf]

end Sys2Proof.Machine
end

section
/-! SUPPORT. Every row keeps the law of the slot table (O9). A row changes the table in one of three ways: it accepts an offer in an EMPTY slot, it
empties a slot, or it changes captures in place without their serials. -/

-- One theorem at a time: the proofs of so long a text would each hold a thread.
set_option Elab.async false

namespace Sys2Proof.Machine

section
variable {t u : SlotTable} {i : Fin 8} {c d : Capture}

/-! ## Captures changed in place -/

/-- Captures change in place, without their serials: the law needs only that the extraction queue follows. -/
theorem SlotLaw.relabelled (h : SlotLaw t) (f : Fin 8 → Capture → Capture) (hslots : ∀ i : Fin 8, u.slots[i] = (t.slots[i]).map (f i))
    (hserial : ∀ i c, (f i c).serial = c.serial) (hacc : u.acceptance = t.acceptance) (hnext : u.nextSerial = t.nextSerial)
    (hnodup : u.queue.Nodup) (hqueue : ∀ i, i ∈ u.queue ↔ ∃ c, t.slots[i] = some c ∧ (f i c).phase = .queued) : SlotLaw u where
  accepted i := by rw [hacc, h.accepted, hslots]; cases t.slots[i] <;> simp
  acceptedOnce := hacc ▸ h.acceptedOnce
  queued i := by
    rw [hqueue, SlotTable.isQueued, hslots]
    cases t.slots[i] <;> simp
  queuedOnce := hnodup
  serialRange i c hc := by
    rw [hslots] at hc
    obtain ⟨d, hd, rfl⟩ := Option.map_eq_some_iff.1 hc
    rw [hserial]
    exact h.serialRange i d hd
  serialOnce i j c d hc hd e := by
    rw [hslots] at hc hd
    obtain ⟨x, hx, rfl⟩ := Option.map_eq_some_iff.1 hc
    obtain ⟨y, hy, rfl⟩ := Option.map_eq_some_iff.1 hd
    rw [hserial, hserial] at e
    exact h.serialOnce i j x y hx hy e
  nextSerial := hnext ▸ h.nextSerial

theorem SlotTable.set_slots (t : SlotTable) (i k : Fin 8) (x : Option Capture) :
    (t.slots.set i x)[k] = if k = i then x else t.slots[k] := by
  simp only [Fin.getElem_fin, Vector.getElem_set, Fin.ext_iff, eq_comm]

theorem SlotTable.put_slots (hc : t.slots[i] = some c) (d : Capture) (k : Fin 8) :
    (t.put i (some d)).slots[k] = (t.slots[k]).map fun x => if k = i then d else x := by
  rw [SlotTable.put, SlotTable.set_slots]
  split
  · rename_i e
    rw [e, hc]; rfl
  · simp

theorem SlotLaw.mem_queue (h : SlotLaw t) (hc : t.slots[i] = some c) : i ∈ t.queue ↔ c.phase = .queued := by
  rw [h.queued, SlotTable.isQueued, hc]
  simp

/-- One capture replaced by one of its serial, QUEUED exactly when it was. -/
theorem SlotLaw.put (h : SlotLaw t) (hc : t.slots[i] = some c) (hs : d.serial = c.serial) (hq : d.phase = .queued ↔ c.phase = .queued) :
    SlotLaw (t.put i (some d)) := by
  refine (h.relabelled (fun k x => if k = i then { d with serial := x.serial } else x) (fun k => ?_) (fun k x => ?_) rfl rfl h.queuedOnce fun k => ?_)
  · rw [SlotTable.put_slots hc]
    by_cases e : k = i
    · subst e; simp [hc, ← hs]
    · simp [e]
  · split <;> rfl
  · show k ∈ t.queue ↔ _
    by_cases e : k = i
    · subst e
      rw [h.mem_queue hc, ← hq]
      simp [hc]
    · simp only [h.queued, SlotTable.isQueued, e, ↓reduceIte]

theorem SlotTable.update_slots (t : SlotTable) (which : List (Fin 8)) (f : Capture → Capture) (k : Fin 8) :
    (t.update which f)[k] = (t.slots[k]).map fun x => if k ∈ which then f x else x := by
  simp only [SlotTable.update, Fin.getElem_fin, Vector.getElem_ofFn, Fin.eta]
  split <;> simp

/-- The slots of the acceptance list whose captures satisfy a predicate. -/
theorem SlotLaw.mem_select (h : SlotLaw t) {p : Capture → Bool} {k : Fin 8} : k ∈ t.select p ↔ ∃ c, t.slots[k] = some c ∧ p c = true := by
  unfold SlotTable.select
  rw [List.mem_filter, h.accepted]
  cases t.slots[k] <;> simp

theorem SlotLaw.select_nodup (h : SlotLaw t) (p : Capture → Bool) : (t.select p).Nodup := h.acceptedOnce.filter _

/-- ARMED slots change in place, some of them into the extraction queue. -/
theorem SlotLaw.armedMoved (h : SlotLaw t) {p q : Capture → Bool} {f : Capture → Capture} (hp : ∀ c, p c = true → c.phase = .armed)
    (hserial : ∀ c, (f c).serial = c.serial) (hq : ∀ c, q c = true ↔ p c = true ∧ (f c).phase = .queued) (last : Option Nat) :
    SlotLaw { t with slots := t.update (t.select p) f, lastTick := last, queue := t.queue ++ t.select q } := by
  refine h.relabelled (fun k x => if k ∈ t.select p then f x else x) (t.update_slots _ _) (fun k x => ?_) rfl rfl ?_ fun k => ?_
  · split
    · exact hserial x
    · rfl
  · refine h.queuedOnce.append (h.select_nodup q) fun k hk hs => ?_
    obtain ⟨c, hc, hqc⟩ := h.mem_select.1 hs
    have hqueued := (h.mem_queue hc).1 hk
    rw [hp c ((hq c).1 hqc).1] at hqueued
    contradiction
  · show k ∈ t.queue ++ t.select q ↔ _
    rw [List.mem_append, h.mem_select, h.queued, SlotTable.isQueued]
    cases hk : t.slots[k] with
    | none => simp
    | some c =>
      have hsel : k ∈ t.select p ↔ p c = true := by rw [h.mem_select, hk]; simp
      simp only [Option.some.injEq, exists_eq_left', hsel, hq]
      split
      · rename_i hpc
        simp [hp c hpc, hpc]
      · rename_i hpc
        simp [hpc]

/-! ## A slot emptied -/

theorem SlotLaw.cleared (h : SlotLaw t) (i : Fin 8) : SlotLaw { t.clear i with queue := t.queue.erase i } where
  accepted k := by
    show k ∈ t.acceptance.erase i ↔ (t.slots.set i none)[k] ≠ none
    rw [h.acceptedOnce.mem_erase_iff, h.accepted, SlotTable.set_slots]
    by_cases e : k = i <;> simp [e]
  acceptedOnce := h.acceptedOnce.erase i
  queued k := by
    show k ∈ t.queue.erase i ↔ ∃ c, (t.slots.set i none)[k] = some c ∧ c.phase = .queued
    rw [h.queuedOnce.mem_erase_iff, h.queued, SlotTable.isQueued, SlotTable.set_slots]
    by_cases e : k = i <;> simp [e]
  queuedOnce := h.queuedOnce.erase i
  serialRange k c hc := by
    have hc : (t.slots.set i none)[k] = some c := hc
    rw [SlotTable.set_slots] at hc
    split at hc
    · contradiction
    · exact h.serialRange k c hc
  serialOnce k j c d hc hd e := by
    have hc : (t.slots.set i none)[k] = some c := hc
    have hd : (t.slots.set i none)[j] = some d := hd
    rw [SlotTable.set_slots] at hc hd
    split at hc
    · contradiction
    · split at hd
      · contradiction
      · exact h.serialOnce k j c d hc hd e
  nextSerial := h.nextSerial

/-- A slot that is not QUEUED is emptied. -/
theorem SlotLaw.cleared_of_not_queued (h : SlotLaw t) (hc : t.slots[i] = some c) (hq : c.phase ≠ .queued) : SlotLaw (t.clear i) := by
  have e := h.cleared i
  rwa [List.erase_of_not_mem fun hm => hq ((h.mem_queue hc).1 hm)] at e

/-! ## An offer accepted -/

theorem next65535_iterate {v : Nat} (hv : 1 ≤ v ∧ v ≤ 65535) (m : Nat) : next65535^[m] v = (v - 1 + m) % 65535 + 1 := by
  induction m with
  | zero => simp only [Function.iterate_zero, id]; omega
  | succ m ih =>
    rw [Function.iterate_succ_apply', ih, next65535]
    split <;> omega

theorem freshSerial_range {used : List Nat} {k v : Nat} (hv : 1 ≤ v ∧ v ≤ 65535) :
    1 ≤ freshSerial used k v ∧ freshSerial used k v ≤ 65535 := by
  induction k generalizing v with
  | zero => exact hv
  | succ k ih =>
    unfold freshSerial
    split
    · exact ih (next65535_range v)
    · exact hv

/-- The search of R68 ends on a value in use only after it has met nothing else. -/
theorem iterates_used_of_freshSerial {used : List Nat} {k v : Nat} (h : freshSerial used k v ∈ used) : ∀ m ≤ k, next65535^[m] v ∈ used := by
  induction k generalizing v with
  | zero =>
    intro m hm
    obtain rfl : m = 0 := by omega
    exact h
  | succ k ih =>
    unfold freshSerial at h
    split at h
    · rename_i hused
      intro m hm
      cases m with
      | zero => exact hused
      | succ m => exact ih h m (by omega)
    · rename_i hfree
      exact absurd h hfree

/-- The serial of R68 is not in use: nine values are tried, and at most eight are in use. -/
theorem freshSerial_not_used {used : List Nat} {v : Nat} (hv : 1 ≤ v ∧ v ≤ 65535) (hlen : used.length ≤ 8) : freshSerial used 8 v ∉ used := by
  intro h
  have hall := iterates_used_of_freshSerial h
  have hnodup : ((List.range 9).map fun m => next65535^[m] v).Nodup := by
    refine List.Nodup.map_on (fun a ha b hb e => ?_) List.nodup_range
    rw [List.mem_range] at ha hb
    rw [next65535_iterate hv, next65535_iterate hv] at e
    omega
  have hsub : ((List.range 9).map fun m => next65535^[m] v) ⊆ used := by
    intro n hn
    obtain ⟨m, hm, rfl⟩ := List.mem_map.1 hn
    rw [List.mem_range] at hm
    exact hall m (by omega)
  have := (hnodup.subperm hsub).length_le
  simp only [List.length_map, List.length_range] at this
  omega

theorem SlotTable.mem_serials {n : Nat} : n ∈ t.serials ↔ ∃ (i : Fin 8) (c : Capture), t.slots[i] = some c ∧ c.serial = n := by
  simp only [SlotTable.serials, List.mem_filterMap, Vector.mem_toList_iff, Vector.mem_iff_getElem, Option.map_eq_some_iff]
  constructor
  · rintro ⟨x, ⟨k, hk, rfl⟩, c, hc, rfl⟩
    exact ⟨⟨k, hk⟩, c, hc, rfl⟩
  · rintro ⟨i, c, hc, rfl⟩
    exact ⟨t.slots[i], ⟨i.val, i.isLt, rfl⟩, c, hc, rfl⟩

theorem SlotTable.serials_length_le : t.serials.length ≤ 8 := by
  have := List.length_filterMap_le (fun c : Option Capture => c.map (·.serial)) t.slots.toList
  simpa [SlotTable.serials] using this

/-- The serial an acceptance takes is in no slot (R68). -/
theorem SlotLaw.freshSerial_fresh (h : SlotLaw t) (hc : t.slots[i] = some c) : c.serial ≠ freshSerial t.serials 8 t.nextSerial := by
  intro e
  exact freshSerial_not_used h.nextSerial SlotTable.serials_length_le (e ▸ SlotTable.mem_serials.2 ⟨i, c, hc, rfl⟩)

theorem SlotLaw.offerAccepted (h : SlotLaw t) {j : JudgedOffer} (hj : t.slots[j.slot] = none) (o : Offer) (later : Bool) : SlotLaw (t.accept j o later) := by
  set x : Capture := j.capture o (freshSerial t.serials 8 t.nextSerial) (if later then .armed else .queued) with hx
  have slots (k : Fin 8) : (t.accept j o later).slots[k] = if k = j.slot then some x else t.slots[k] := t.set_slots j.slot k (some x)
  have free : j.slot ∉ t.queue := by
    rw [h.queued, SlotTable.isQueued, hj]
    simp
  refine
    { accepted := fun k => ?_
      acceptedOnce := ?_
      queued := fun k => ?_
      queuedOnce := ?_
      serialRange := fun k c hc => ?_
      serialOnce := fun k m c d hc hd e => ?_
      nextSerial := next65535_range _ }
  · rw [slots]
    show k ∈ t.acceptance ++ [j.slot] ↔ _
    rw [List.mem_append, h.accepted, List.mem_singleton]
    by_cases e : k = j.slot <;> simp [e]
  · show (t.acceptance ++ [j.slot]).Nodup
    refine h.acceptedOnce.append (List.nodup_singleton _) fun k hk he => ?_
    rw [List.mem_singleton] at he
    subst he
    exact (h.accepted _).1 hk hj
  · rw [SlotTable.isQueued, slots]
    show k ∈ (if later then t.queue else t.queue ++ [j.slot]) ↔ _
    by_cases e : k = j.slot
    · subst e
      cases later <;> simp [free, hx, JudgedOffer.capture]
    · cases later <;> simp [e, h.queued, SlotTable.isQueued]
  · show (if later then t.queue else t.queue ++ [j.slot]).Nodup
    split
    · exact h.queuedOnce
    · refine h.queuedOnce.append (List.nodup_singleton _) fun k hk he => ?_
      rw [List.mem_singleton] at he
      exact free (he ▸ hk)
  · rw [slots] at hc
    split at hc
    · obtain rfl := Option.some.inj hc
      exact freshSerial_range h.nextSerial
    · exact h.serialRange k c hc
  · rw [slots] at hc hd
    split at hc <;> split at hd
    · rename_i hk hm
      rw [hk, hm]
    · obtain rfl := Option.some.inj hc
      exact absurd e.symm (h.freshSerial_fresh hd)
    · obtain rfl := Option.some.inj hd
      exact absurd e (h.freshSerial_fresh hc)
    · exact h.serialOnce k m c d hc hd e

end

/-! ## The rows -/

section
variable {s t u : State} {l : Link}

theorem State.slotLaw_congr (h : SlotLaw s.table) (e : t.table = s.table) : SlotLaw t.table := by rwa [e]

theorem judgeOffer_slot {o : Offer} {j : JudgedOffer} (h : s.judgeOffer o = .ok j) : s.slot j.slot = none := by
  simp only [State.judgeOffer] at h
  repeat' split at h
  all_goals try contradiction
  cases h
  rename_i hempty _ _ _ _ _ _
  simpa using hempty

theorem takeOffer_slotLaw (h : SlotLaw s.table) (o : Offer) : SlotLaw (takeOffer o s).1.table := by
  unfold takeOffer
  split
  · exact h
  · exact h.offerAccepted (judgeOffer_slot ‹_›) o _

theorem triggerOwner_slotLaw {o : Offer} {body : ReplyBody} {after : AfterReply} (hs : SlotLaw s.table)
    (h : triggerOwner o s = some (t, body, after)) : SlotLaw t.table := by
  have offered := takeOffer_slotLaw hs o
  unfold triggerOwner at h
  split at h
  all_goals
    rename_i hoffer
    simp only [Option.some.injEq, Prod.mk.injEq] at h
    obtain ⟨rfl, -, -⟩ := h
    rw [hoffer] at offered
    exact offered

theorem testOwner_slotLaw {channels : Bitmap} {delay width gap trigDelay label : BitVec 16} {count slot : Byte} {body : ReplyBody} {after : AfterReply}
    (hs : SlotLaw s.table) (h : testOwner channels delay width gap count slot trigDelay label s = some (t, body, after)) : SlotLaw t.table := by
  have offered (f : TestFields) (i : Fin 8) : SlotLaw (offerTest f i s).1.table := by
    have offered := takeOffer_slotLaw hs (testOffer f i)
    unfold offerTest
    split
    all_goals
      rename_i hoffer
      rw [hoffer] at offered
      exact offered
  unfold testOwner at h
  repeat' split at h
  all_goals
    simp only [Option.some.injEq, Prod.mk.injEq] at h
    obtain ⟨rfl, -, -⟩ := h
    first
      | exact hs
      | exact offered _ _

theorem emptySlot_table (i : Fin 8) (c : Capture) (s : State) : (emptySlot i c s).table = s.table.clear i := by
  obtain ⟨_, e⟩ := returnFromTable_only (s.modTable fun t => t.clear i) c.blocks
  rw [emptySlot, e]
  rfl

theorem orderDrop_table (e : Engine) (i : Fin 8) (n : Nat) (s : State) : (orderDrop e i n s).table = s.table := by
  unfold orderDrop
  split <;> rfl

theorem acceptAbort_slotLaw {i : Fin 8} {c : Capture} (hs : SlotLaw s.table) (hc : s.slot i = some c) : SlotLaw (acceptAbort i c s).table := by
  show SlotLaw (emptySlot i c (abortWork i c s)).table
  rw [emptySlot_table]
  unfold abortWork
  split
  · exact hs.cleared i
  · rename_i hp
    rw [orderDrop_table, orderDrop_table]
    exact hs.cleared_of_not_queued hc (by simp [hp])
  · rename_i hq _
    exact hs.cleared_of_not_queued hc hq

theorem abortOwner_slotLaw {slot force : Byte} {body : ReplyBody} {after : AfterReply} (hs : SlotLaw s.table)
    (h : abortOwner l slot force s = some (t, body, after)) : SlotLaw t.table := by
  unfold abortOwner at h
  repeat' split at h
  all_goals try contradiction
  all_goals
    simp only [Option.some.injEq, Prod.mk.injEq] at h
    obtain ⟨rfl, -, -⟩ := h
    first
      | exact hs
      | exact acceptAbort_slotLaw hs ‹_›

theorem releaseOwner_slotLaw {slot : Byte} {serial : BitVec 16} {body : ReplyBody} {after : AfterReply} (hs : SlotLaw s.table)
    (h : releaseOwner l slot serial s = some (t, body, after)) : SlotLaw t.table := by
  unfold releaseOwner at h
  repeat' split at h
  all_goals try contradiction
  all_goals
    simp only [Option.some.injEq, Prod.mk.injEq] at h
    obtain ⟨rfl, -, -⟩ := h
  · exact hs
  · exact hs
  · exact hs
  · exact hs
  · rename_i c hc _ hr
    have hp : c.phase = .claimed l := by
      unfold releaseRefusal at hr
      repeat' split at hr
      all_goals first
        | assumption
        | contradiction
    show SlotLaw (emptySlot _ c s).table
    rw [emptySlot_table]
    exact hs.cleared_of_not_queued hc (by simp [hp])

theorem tableTakeFetch_slotLaw {i : Fin 8} {claim : Bool} {fromPart : Nat} (hs : SlotLaw s.table) :
    SlotLaw (tableTakeFetch l i claim fromPart s).1.table := by
  have pending (c : Capture) (hc : s.slot i = some c) : SlotLaw (fetchPending l i c claim fromPart s).1.table := by
    unfold fetchPending
    split
    · exact hs
    · exact hs.put hc rfl Iff.rfl
  have queued (c : Capture) (p : Phase) (hc : s.slot i = some c) (hq : p ≠ .queued ∧ c.phase ≠ .queued) :
      SlotLaw (fetchQueued l i c p fromPart s).1.table := hs.put hc rfl (by simp [hq])
  unfold tableTakeFetch
  split
  · exact hs
  · rename_i c hc
    split
    · exact pending c hc
    · exact pending c hc
    · exact pending c hc
    · rename_i hp
      refine queued c _ hc ⟨?_, by simp [hp]⟩
      split <;> simp
    · rename_i hp
      split
      · exact hs
      · exact queued c _ hc ⟨by simp, by simp [hp]⟩

theorem fetchOwner_slotLaw {slot claim fromPart : Byte} {body : ReplyBody} {after : AfterReply} (hs : SlotLaw s.table)
    (h : fetchOwner l slot claim fromPart s = some (t, body, after)) : SlotLaw t.table := by
  unfold fetchOwner at h
  repeat' split at h
  all_goals first
    | contradiction
    | simp only [Option.some.injEq, Prod.mk.injEq] at h
      obtain ⟨rfl, -, -⟩ := h
      first
        | exact hs
        | exact tableTakeFetch_slotLaw hs

theorem autoRule_slotLaw (hs : SlotLaw s.table) (c : Change) (tick : Nat) : SlotLaw (autoRule c tick s).table := by
  unfold autoRule
  split
  · exact hs
  · dsimp only
    have answered (a : Answer) (v : State) : (autoAnswered c tick a v).table = v.table := by
      unfold autoAnswered
      repeat' split
      all_goals rfl
    rw [answered]
    refine takeOffer_slotLaw ?_ _
    exact hs

theorem transitionRules_slotLaw (hs : SlotLaw s.table) (tick : Nat) (c : Change) : SlotLaw (transitionRules tick s c).table := by
  unfold transitionRules
  have alerted : SlotLaw (if c.alert then alertRule c tick s else s).table := by
    split
    · obtain ⟨_, _, e⟩ := alertRule_only s c tick
      rw [e]
      exact hs
    · exact hs
  split
  · dsimp only
    split
    · exact autoRule_slotLaw alerted c tick
    · exact alerted
  · exact hs

theorem trigUnitTakeSample_slotLaw (hs : SlotLaw s.table) : SlotLaw (trigUnitTakeSample s).table := by
  have folded (k : Nat) (cs : List Change) {v : State} (hv : SlotLaw v.table) : SlotLaw (cs.foldl (transitionRules k) v).table := by
    induction cs generalizing v with
    | nil => exact hv
    | cons x xs ih => exact ih (transitionRules_slotLaw hv k x)
  unfold trigUnitTakeSample
  split
  · rename_i c rest _
    refine folded c.tick c.changes ?_
    exact hs
  · exact hs

theorem tableTakeSample_slotLaw (hs : SlotLaw s.table) : SlotLaw (tableTakeSample s).table := by
  unfold tableTakeSample
  split
  · rename_i c rest _
    refine hs.armedMoved (p := Capture.dueAt c.tick) (q := Capture.dueAt c.tick) (f := Capture.queue) (fun d hd => ?_) (fun d => rfl)
      (fun d => by simp [Capture.queue]) _
    simp only [Capture.dueAt, Bool.and_eq_true, beq_iff_eq] at hd
    exact hd.1
  · exact hs

theorem tableTakeStop_slotLaw (hs : SlotLaw s.table) : SlotLaw (tableTakeStop s).table := by
  unfold tableTakeStop
  split
  · dsimp only
    obtain ⟨_, e⟩ := tellAll_only (s.table.stopNews s.tableNewest) (s.modTable fun t => t.takeStop s.tableNewest)
    rw [e]
    refine hs.armedMoved (p := Capture.isArmed) (fun d hd => by simpa [Capture.isArmed] using hd) (fun d => ?_) (fun d => ?_) s.table.lastTick
    · unfold Capture.cut
      dsimp only
      split <;> rfl
    · unfold Capture.cut
      dsimp only
      cases d.recordedBy s.tableNewest
      · simp only [Bool.false_eq_true, ↓reduceIte, Bool.and_false, false_iff, not_and]
        intro _
        simp only [Capture.becomeReady]
        split
        · split <;> simp
        · simp
      · simp [Capture.queue]
  · exact hs

theorem tableTakeOffer_slotLaw (hs : SlotLaw s.table) : SlotLaw (tableTakeOffer s).table := by
  unfold tableTakeOffer
  split
  · exact hs
  · refine takeOffer_slotLaw ?_ _
    exact hs

theorem engineTakeSlot_slotLaw (hs : SlotLaw s.table) : SlotLaw (engineTakeSlot s).table := by
  unfold engineTakeSlot
  split
  · rename_i i rest e hq _
    have hi : s.table.isQueued i := (hs.queued i).1 (by rw [hq]; exact List.mem_cons_self)
    obtain ⟨c, hc, hp⟩ := hi
    unfold giveHead
    rw [show s.slot i = some c from hc]
    have hnodup := hs.queuedOnce
    rw [hq, List.nodup_cons] at hnodup
    refine hs.relabelled (fun k x => if k = i then { c with phase := .extracting, serial := x.serial } else x) (fun k => ?_) (fun k x => ?_) rfl rfl
      hnodup.2 fun k => ?_
    · refine (SlotTable.put_slots hc _ k).trans ?_
      by_cases e : k = i
      · subst e
        simp [hc]
      · simp [e]
    · split <;> rfl
    · show k ∈ rest ↔ _
      by_cases e : k = i
      · subst e
        simp [hnodup.1]
      · have hk := hs.queued k
        rw [hq, List.mem_cons, SlotTable.isQueued] at hk
        simp only [e, false_or] at hk
        simp [hk, e]
  · exact hs

theorem Capture.becomeReady_not_queued (c : Capture) : c.becomeReady.phase ≠ .queued := by
  unfold Capture.becomeReady
  dsimp only
  split
  · split <;> simp
  · simp

theorem extractsUnder_eq_some {i : Fin 8} {n : Nat} {c : Capture} (h : s.extractsUnder i n = some c) :
    s.slot i = some c ∧ c.phase = .extracting ∧ c.serial = n := by
  simpa [State.extractsUnder, Option.filter_eq_some_iff] using h

theorem takeEnd_slotLaw {e : Engine} (hs : SlotLaw s.table) : SlotLaw (takeEnd e s).table := by
  unfold takeEnd
  split
  · rename_i w _
    split
    · rename_i c hc
      obtain ⟨hslot, hp, -⟩ := extractsUnder_eq_some hc
      exact hs.put hslot rfl (by simp [hp, Capture.becomeReady_not_queued])
    · obtain ⟨_, e⟩ := returnFromTable_only (s.setEngine e .idle) w.blocks
      rw [e]
      exact hs
  · exact hs

theorem tableTakeSessionEnd_slotLaw (hs : SlotLaw s.table) : SlotLaw (tableTakeSessionEnd l s).table := by
  unfold tableTakeSessionEnd
  split
  · exact hs
  · refine hs.relabelled (fun _ => Capture.atSessionEnd l) (fun k => ?_) (fun _ _ => rfl) rfl rfl hs.queuedOnce fun k => ?_
    · simp
    · show k ∈ s.table.queue ↔ _
      rw [hs.queued, SlotTable.isQueued]
      refine exists_congr fun c => and_congr_right fun _ => ?_
      simp only [Capture.atSessionEnd]
      split
      · rename_i hp
        simp [hp]
      · exact Iff.rfl

end

theorem exec_keeps_table {i : Instr} {s t : State} (hs : SlotLaw s.table) (h : exec i s = .next t) : SlotLaw t.table := by
  by_cases hr : .table ∈ reach i
  swap
  · exact State.slotLaw_congr hs (exec_same h hr)
  revert h
  cases i
  case trigger => exact commandRow_keeps (P := fun s => SlotLaw s.table) (fun _ h => h) triggerOwner_slotLaw hs
  case abort => exact commandRow_keeps (P := fun s => SlotLaw s.table) (fun _ h => h) abortOwner_slotLaw hs
  case fetch => exact commandRow_keeps (P := fun s => SlotLaw s.table) (fun _ h => h) fetchOwner_slotLaw hs
  case release => exact commandRow_keeps (P := fun s => SlotLaw s.table) (fun _ h => h) releaseOwner_slotLaw hs
  case test => exact commandRow_keeps (P := fun s => SlotLaw s.table) (fun _ h => h) testOwner_slotLaw hs
  case triggerUnitTakeSample => exact unlessHeld_keeps (P := fun s => SlotLaw s.table) trigUnitTakeSample_slotLaw hs
  case alertCountdownExpiry =>
    refine unlessHeld_keeps (P := fun s => SlotLaw s.table) (fun hu => ?_) hs
    split
    · exact trigUnitTakeSample_slotLaw hu
    · exact hu
  case slotTableTakeSample => exact unlessHeld_keeps (P := fun s => SlotLaw s.table) tableTakeSample_slotLaw hs
  case slotTableTakeStop => exact unlessHeld_keeps (P := fun s => SlotLaw s.table) tableTakeStop_slotLaw hs
  case slotTableOffer => exact unlessHeld_keeps (P := fun s => SlotLaw s.table) tableTakeOffer_slotLaw hs
  case engineTakeSlot => exact unlessHeld_keeps (P := fun s => SlotLaw s.table) engineTakeSlot_slotLaw hs
  case extractionEndTaken => exact unlessHeld_keeps (P := fun s => SlotLaw s.table) takeEnd_slotLaw hs
  case slotTableTakeSessionEnd => exact unlessHeld_keeps (P := fun s => SlotLaw s.table) tableTakeSessionEnd_slotLaw hs
  case resetCarriedOut =>
    exact unlessHeld_keeps (P := fun s => SlotLaw s.table)
      (resetCarriedOut_keeps (P := fun s => SlotLaw s.table) fun keep _ => SlotTable.reset_lawful) hs
  case hardReset => exact fun h => exec_hardReset h ▸ SlotTable.reset_lawful
  all_goals simp [reach] at hr

/-- Settles O9. -/
theorem slotTableLawIsKept : Obligations.SlotTableLawIsKept := by
  unfold Obligations.SlotTableLawIsKept
  exact step_keeps (P := fun s => SlotLaw s.table) (ps := [.table]) (fun {s t} hsame hs => State.slotLaw_congr hs (hsame .table (by simp))) (by simp)
    (by simp) fun i _ {s t} hs h => exec_keeps_table hs h

end Sys2Proof.Machine
end

section
/-! SUPPORT. Every row keeps claims and pending fetches with the session they belong to (O12): a row of the links leaves the slot table, and ends a
session only with the hand-off that tells the table; a row of the table claims a slot only for a session that stands. -/

-- One theorem at a time: the proofs of so long a text would each hold a thread.
set_option Elab.async false

namespace Sys2Proof.Machine

section
variable {s t u : State} {l : Link}

/-! ## Sessions that go on, or end with their hand-off -/

/-- The slot table is left, and every session that stands goes on standing. -/
def ClaimsLeft (s t : State) : Prop := t.table = s.table ∧ ∀ l, s.sessionStands l → t.sessionStands l

theorem ClaimLaw.left (h : ClaimLaw s) (e : ClaimsLeft s t) : ClaimLaw t := by
  obtain ⟨htable, hstands⟩ := e
  have hslot (i : Fin 8) : t.slot i = s.slot i := by rw [State.slot, htable]; rfl
  refine ⟨fun i c l hc hp => hstands l (h.1 i c l (hslot i ▸ hc) hp), fun i c f hc hf => ?_⟩
  obtain ⟨hs, hfin⟩ := h.2 i c f (hslot i ▸ hc) hf
  exact ⟨hstands _ hs, hfin⟩

theorem ClaimsLeft.refl : ClaimsLeft s s := ⟨rfl, fun _ h => h⟩

theorem ClaimsLeft.trans (h : ClaimsLeft s t) (h' : ClaimsLeft t u) : ClaimsLeft s u := ⟨h'.1.trans h.1, fun l hl => h'.2 l (h.2 l hl)⟩

theorem ClaimsLeft.of_same (ht : t.table = s.table) (hl : t.links = s.links) (he : t.wires.tableEnds = s.wires.tableEnds) : ClaimsLeft s t :=
  ⟨ht, fun l h => by rwa [State.sessionStands, hl, he]⟩

theorem ClaimsLeft.modLink {f : LinkState → LinkState} (hf : (s.links.get l).session ≠ none → (f (s.links.get l)).session ≠ none) :
    ClaimsLeft s (s.modLink l f) := by
  refine ⟨rfl, fun m h => ?_⟩
  simp only [State.sessionStands, State.modLink_links, State.modLink_wires, PerLink.get_set] at h ⊢
  obtain h | h := h
  · refine .inl ?_
    split
    · rename_i e
      exact hf (e ▸ h)
    · exact h
  · exact .inr h

theorem ClaimsLeft.notify (f : Notices → Notices) : ClaimsLeft s (s.notify l f) := by
  rw [State.notify_eq]
  exact ClaimsLeft.modLink fun h => by unfold LinkState.noticed; split <;> exact h

theorem ClaimsLeft.notifyBoth (f : Notices → Notices) : ClaimsLeft s (s.notifyBoth f) := ClaimsLeft.notify f |>.trans (ClaimsLeft.notify f)

theorem LinkState.taken_session (k : LinkState) (resetting : Bool) (f : GoodFrame) : (k.taken resetting f).session = k.session := by
  unfold LinkState.taken LinkState.noticed LinkState.queued
  repeat' split
  all_goals rfl

theorem LinkState.pumped_session (k : LinkState) (resetting : Bool) (fs : List GoodFrame) : (k.pumped resetting fs).session = k.session := by
  induction fs generalizing k with
  | nil => rfl
  | cons f rest ih =>
    unfold LinkState.pumped
    split
    · rfl
    · rw [ih, LinkState.taken_session]

theorem ClaimsLeft.goodFrame (f : GoodFrame) : ClaimsLeft s (goodFrame l f s) := by
  rw [goodFrame_eq]
  refine ClaimsLeft.modLink fun h => ?_
  rw [LinkState.received, LinkState.pumped_session]
  exact h

theorem ClaimsLeft.finishCommand (seq kind : Byte) (body : ReplyBody) (after : AfterReply) : ClaimsLeft s (finishCommand l seq kind body after s) := by
  rw [finishCommand_eq]
  refine ClaimsLeft.modLink fun h => ?_
  rw [LinkState.finished, LinkState.pumped_session]
  exact h

theorem ClaimsLeft.endSession (r : SessionEndReason) : ClaimsLeft s (endSession l r s) := by
  cases hs : (s.links.get l).session with
  | none => rw [endSession_closed r hs]; exact .refl
  | some n =>
    rw [endSession_open r hs]
    refine ⟨rfl, fun m h => ?_⟩
    by_cases e : m = l
    · subst e
      exact .inr (by simp [Wires.endSession])
    · simpa [State.sessionStands, Wires.endSession, PerLink.get_set, e] using h

theorem LinkState.takeDueRate_session (k : LinkState) : k.takeDueRate.session = k.session := by unfold LinkState.takeDueRate; split <;> rfl

theorem LinkState.takeFreeRate_session (k : LinkState) : k.takeFreeRate.session = k.session := by
  unfold LinkState.takeFreeRate
  split
  · rfl
  · exact k.takeDueRate_session

/-! ## Owners that reach the links -/

theorem helloOwner_left {body : ReplyBody} {after : AfterReply} (h : helloOwner l s = some (t, body, after)) : ClaimsLeft s t := by
  simp only [helloOwner, Option.some.injEq, Prod.mk.injEq] at h
  obtain ⟨rfl, -, -⟩ := h
  exact (ClaimsLeft.endSession .rehello).trans (ClaimsLeft.modLink fun _ => by simp [LinkState.openSession])

theorem byeOwner_left {body : ReplyBody} {after : AfterReply} (h : byeOwner l s = some (t, body, after)) : ClaimsLeft s t := by
  simp only [byeOwner, Option.some.injEq, Prod.mk.injEq] at h
  obtain ⟨rfl, -, -⟩ := h
  exact ClaimsLeft.modLink fun h => h

theorem setOwner_left {id : BitVec 16} {v : List Byte} {body : ReplyBody} {after : AfterReply} (h : setOwner l id v s = some (t, body, after)) :
    ClaimsLeft s t := by
  unfold setOwner at h
  split at h
  · simp only [Option.some.injEq, Prod.mk.injEq] at h
    obtain ⟨rfl, -, -⟩ := h
    exact .refl
  · rename_i x items _
    simp only [Option.some.injEq, Prod.mk.injEq] at h
    obtain ⟨rfl, -, -⟩ := h
    have stored : ClaimsLeft s (s.setItems items) := .of_same rfl rfl rfl
    refine stored.trans ?_
    unfold afterSet endIfOverdue
    repeat' split
    · exact .refl
    · exact ClaimsLeft.modLink fun h => by rw [LinkState.takeFreeRate_session]; exact h
    · exact ClaimsLeft.endSession .timeout
    · exact .refl
    · exact .refl

/-! ## A command's row -/

theorem commandRow_keeps_claims {seq : Byte} {c : Command} {own : Owner}
    (hown : ∀ {u t : State} {body : ReplyBody} {after : AfterReply}, u.LinksLawful → (u.links.get l).inHand = some { seq := seq, command := c } →
      own u = some (t, body, after) → (t.LinksLawful ∧ (t.links.get l).inHand.isSome = true) ∧ (ClaimLaw u → ClaimLaw t))
    (hs : s.LinksLawful ∧ ClaimLaw s) : ClaimLaw (commandRow l seq c own s) := by
  refine (commandRow_keeps_inHand (P := fun s => s.LinksLawful ∧ ClaimLaw s) (fun hu => ?_) (fun body after hu hin => ?_) (fun hu hin ho => ?_) hs).2
  · exact ⟨hu.1.goodFrame fun d hd => by cases hd; rfl, hu.2.left (ClaimsLeft.goodFrame _)⟩
  · exact ⟨hu.1.finishCommand hin seq c.kind body after, hu.2.left (ClaimsLeft.finishCommand _ _ _ _)⟩
  · obtain ⟨hlinks, hclaims⟩ := hown hu.1 hin ho
    exact ⟨⟨hlinks.1, hclaims hu.2⟩, hlinks.2⟩

/-- The row of a command whose owner leaves the links; a claim is made for a session that stands, unless the command is HELLO. -/
theorem commandRow_keeps_claims_of_same {seq : Byte} {c : Command} {own : Owner} (hc : c ≠ .hello)
    (hown : ∀ {u t : State} {body : ReplyBody} {after : AfterReply}, u.sessionStands l → own u = some (t, body, after) →
      t.links = u.links ∧ (ClaimLaw u → ClaimLaw t))
    (hs : s.LinksLawful ∧ ClaimLaw s) : ClaimLaw (commandRow l seq c own s) := by
  refine commandRow_keeps_claims (fun {u t body after} hu hin ho => ?_) hs
  have hstands : u.sessionStands l := by
    obtain h | h := (hu l).command _ hin
    · exact absurd h hc
    · exact .inl (Option.isSome_iff_ne_none.1 h)
  obtain ⟨hlinks, hclaims⟩ := hown hstands ho
  exact ⟨⟨hu.congr hlinks, by rw [hlinks, hin]; rfl⟩, hclaims⟩

/-! ## The slot table's changes -/

/-- Captures of a table that changes, each with a claim and a pending fetch it had, or none that its session does not stand behind. -/
theorem claimLaw_of_slots (hlinks : t.links = s.links) (hends : t.wires.tableEnds = s.wires.tableEnds)
    (hslots : ∀ i d, t.slot i = some d →
      (∀ l, d.phase = .claimed l → s.sessionStands l) ∧ ∀ f, d.fetch = some f → s.sessionStands f.link ∧ d.phase.finished = false) : ClaimLaw t := by
  have hstands (l : Link) : t.sessionStands l ↔ s.sessionStands l := by rw [State.sessionStands, hlinks, hends]; rfl
  refine ⟨fun i d l hd hp => (hstands l).2 ((hslots i d hd).1 l hp), fun i d f hd hf => ?_⟩
  obtain ⟨hs, hfin⟩ := (hslots i d hd).2 f hf
  exact ⟨(hstands _).2 hs, hfin⟩

/-- What the law says of one capture. -/
def State.claimsStand (s : State) (c : Capture) : Prop :=
  (∀ l, c.phase = .claimed l → s.sessionStands l) ∧ ∀ f, c.fetch = some f → s.sessionStands f.link ∧ c.phase.finished = false

theorem ClaimLaw.claimsStand (h : ClaimLaw s) {i : Fin 8} {c : Capture} (hc : s.slot i = some c) : s.claimsStand c :=
  ⟨fun l hp => h.1 i c l hc hp, fun f hf => h.2 i c f hc hf⟩

/-- One slot's record replaced, or emptied. -/
theorem ClaimLaw.set (h : ClaimLaw s) {i : Fin 8} {x : Option Capture} (hx : ∀ d, x = some d → s.claimsStand d) (hlinks : t.links = s.links)
    (hends : t.wires.tableEnds = s.wires.tableEnds) (ht : t.table.slots = s.table.slots.set i x) : ClaimLaw t := by
  refine claimLaw_of_slots hlinks hends fun k d hd => ?_
  rw [State.slot, ht, SlotTable.set_slots] at hd
  split at hd
  · exact hx d hd
  · exact h.claimsStand hd

theorem State.claimsStand_becomeReady {c : Capture} (h : s.claimsStand c) : s.claimsStand c.becomeReady := by
  refine ⟨fun l hp => ?_, by simp [Capture.becomeReady]⟩
  simp only [Capture.becomeReady] at hp
  split at hp
  · rename_i f hf
    split at hp
    · obtain rfl := Phase.claimed.inj hp
      exact (h.2 f hf).1
    · contradiction
  · contradiction

theorem takeOffer_claims (o : Offer) (h : ClaimLaw s) : ClaimLaw (takeOffer o s).1 := by
  unfold takeOffer
  split
  · exact h
  · refine h.set (fun d hd => ?_) rfl rfl rfl
    obtain rfl := Option.some.inj hd
    refine ⟨fun l hp => ?_, by simp [JudgedOffer.capture]⟩
    simp only [JudgedOffer.capture] at hp
    split at hp <;> contradiction

theorem emptySlot_claims (i : Fin 8) (c : Capture) (h : ClaimLaw s) : ClaimLaw (emptySlot i c s) := by
  obtain ⟨_, e⟩ := returnFromTable_only (s.modTable fun t => t.clear i) c.blocks
  rw [emptySlot, e]
  exact h.set (i := i) (x := none) (by simp) rfl rfl rfl

theorem triggerOwner_claims {o : Offer} {body : ReplyBody} {after : AfterReply} (h : triggerOwner o s = some (t, body, after)) :
    ClaimLaw s → ClaimLaw t := by
  intro hs
  have offered := takeOffer_claims o hs
  unfold triggerOwner at h
  split at h
  all_goals
    rename_i hoffer
    simp only [Option.some.injEq, Prod.mk.injEq] at h
    obtain ⟨rfl, -, -⟩ := h
    rw [hoffer] at offered
    exact offered

theorem testOwner_claims {channels : Bitmap} {delay width gap trigDelay label : BitVec 16} {count slot : Byte} {body : ReplyBody} {after : AfterReply}
    (h : testOwner channels delay width gap count slot trigDelay label s = some (t, body, after)) : ClaimLaw s → ClaimLaw t := by
  intro hs
  have offered (f : TestFields) (i : Fin 8) : ClaimLaw (offerTest f i s).1 := by
    have offered := takeOffer_claims (testOffer f i) hs
    unfold offerTest
    split
    all_goals
      rename_i hoffer
      rw [hoffer] at offered
      exact offered
  unfold testOwner at h
  repeat' split at h
  all_goals
    simp only [Option.some.injEq, Prod.mk.injEq] at h
    obtain ⟨rfl, -, -⟩ := h
    first
      | exact hs
      | exact offered _ _

theorem abortWork_claims (i : Fin 8) (c : Capture) (h : ClaimLaw s) : ClaimLaw (abortWork i c s) := by
  have dropped (e : Engine) {v : State} (hv : ClaimLaw v) : ClaimLaw (orderDrop e i c.serial v) := by
    unfold orderDrop
    split <;> exact hv
  unfold abortWork
  split
  · exact h
  · exact dropped .e1 (dropped .e0 h)
  · exact h

theorem abortOwner_claims {slot force : Byte} {body : ReplyBody} {after : AfterReply} (h : abortOwner l slot force s = some (t, body, after)) :
    ClaimLaw s → ClaimLaw t := by
  intro hs
  unfold abortOwner at h
  repeat' split at h
  all_goals try contradiction
  all_goals
    simp only [Option.some.injEq, Prod.mk.injEq] at h
    obtain ⟨rfl, -, -⟩ := h
    first
      | exact hs
      | exact emptySlot_claims _ _ (abortWork_claims _ _ hs)

theorem releaseOwner_claims {slot : Byte} {serial : BitVec 16} {body : ReplyBody} {after : AfterReply}
    (h : releaseOwner l slot serial s = some (t, body, after)) : ClaimLaw s → ClaimLaw t := by
  intro hs
  unfold releaseOwner at h
  repeat' split at h
  all_goals try contradiction
  all_goals
    simp only [Option.some.injEq, Prod.mk.injEq] at h
    obtain ⟨rfl, -, -⟩ := h
    first
      | exact hs
      | exact emptySlot_claims _ _ hs

theorem tableTakeFetch_claims {i : Fin 8} {claim : Bool} {fromPart : Nat} (hl : s.sessionStands l) (hs : ClaimLaw s) :
    ClaimLaw (tableTakeFetch l i claim fromPart s).1 := by
  have pending (c : Capture) (hc : s.slot i = some c) (hp : c.phase.finished = false) : ClaimLaw (fetchPending l i c claim fromPart s).1 := by
    unfold fetchPending
    split
    · exact hs
    · refine hs.set (i := i) (fun d hd => ?_) rfl rfl rfl
      obtain rfl := Option.some.inj hd
      refine ⟨(hs.claimsStand hc).1, fun f hf => ?_⟩
      obtain rfl := Option.some.inj hf
      exact ⟨hl, hp⟩
  have queued (c : Capture) (p : Phase) (hc : s.slot i = some c) (hfin : c.phase.finished = true) (hp : ∀ m, p = .claimed m → s.sessionStands m) :
      ClaimLaw (fetchQueued l i c p fromPart s).1 := by
    refine hs.set (i := i) (fun d hd => ?_) rfl rfl rfl
    obtain rfl := Option.some.inj hd
    refine ⟨hp, fun f hf => ?_⟩
    have := ((hs.claimsStand hc).2 f hf).2
    rw [hfin] at this
    contradiction
  unfold tableTakeFetch
  split
  · exact hs
  · rename_i c hc
    split
    · rename_i hp
      exact pending c hc (by rw [hp]; rfl)
    · rename_i hp
      exact pending c hc (by rw [hp]; rfl)
    · rename_i hp
      exact pending c hc (by rw [hp]; rfl)
    · rename_i hp
      refine queued c _ hc (by rw [hp]; rfl) fun m hm => ?_
      split at hm
      · obtain rfl := Phase.claimed.inj hm
        exact hl
      · contradiction
    · rename_i holder hp
      split
      · exact hs
      · refine queued c _ hc (by rw [hp]; rfl) fun m hm => ?_
        obtain rfl := Phase.claimed.inj hm
        exact (hs.claimsStand hc).1 _ hp

theorem fetchOwner_claims {slot claim fromPart : Byte} {body : ReplyBody} {after : AfterReply} (hl : s.sessionStands l)
    (h : fetchOwner l slot claim fromPart s = some (t, body, after)) : ClaimLaw s → ClaimLaw t := by
  intro hs
  unfold fetchOwner at h
  repeat' split at h
  all_goals first
    | contradiction
    | simp only [Option.some.injEq, Prod.mk.injEq] at h
      obtain ⟨rfl, -, -⟩ := h
      first
        | exact hs
        | exact tableTakeFetch_claims hl hs

theorem transitionRules_claims (tick : Nat) (c : Change) (h : ClaimLaw s) : ClaimLaw (transitionRules tick s c) := by
  have answered (a : Answer) {v : State} (hv : ClaimLaw v) : ClaimLaw (autoAnswered c tick a v) := by
    unfold autoAnswered
    repeat' split
    all_goals exact hv
  have ruled {v : State} (hv : ClaimLaw v) : ClaimLaw (autoRule c tick v) := by
    unfold autoRule
    split
    · exact hv
    · refine answered _ (takeOffer_claims _ ?_)
      exact hv
  have alerted : ClaimLaw (if c.alert then alertRule c tick s else s) := by
    split
    · refine ClaimLaw.left ?_ (ClaimsLeft.notifyBoth _)
      exact h
    · exact h
  unfold transitionRules
  split
  · dsimp only
    split
    · exact ruled alerted
    · exact alerted
  · exact h

theorem trigUnitTakeSample_claims (h : ClaimLaw s) : ClaimLaw (trigUnitTakeSample s) := by
  have folded (k : Nat) (cs : List Change) {v : State} (hv : ClaimLaw v) : ClaimLaw (cs.foldl (transitionRules k) v) := by
    induction cs generalizing v with
    | nil => exact hv
    | cons x xs ih => exact ih (transitionRules_claims k x hv)
  unfold trigUnitTakeSample
  split
  · rename_i c rest _
    refine folded c.tick c.changes ?_
    exact h
  · exact h

/-- Captures of a list of slots changed in place. -/
theorem ClaimLaw.updated (h : ClaimLaw s) {which : List (Fin 8)} {f : Capture → Capture} (hlinks : t.links = s.links)
    (hends : t.wires.tableEnds = s.wires.tableEnds) (ht : t.table.slots = s.table.update which f)
    (hf : ∀ i ∈ which, ∀ c, s.slot i = some c → s.claimsStand c → s.claimsStand (f c)) : ClaimLaw t := by
  refine claimLaw_of_slots hlinks hends fun k d hd => ?_
  rw [State.slot, ht, SlotTable.update_slots] at hd
  obtain ⟨c, hc, rfl⟩ := Option.map_eq_some_iff.1 hd
  split
  · rename_i hk
    exact hf k hk c hc (h.claimsStand hc)
  · exact h.claimsStand hc

theorem SlotTable.select_phase {t : SlotTable} {p : Capture → Bool} {i : Fin 8} {c : Capture} (hi : i ∈ t.select p) (hc : t.slots[i] = some c) :
    p c = true := by
  have := (List.mem_filter.1 hi).2
  rwa [hc] at this

theorem tableTakeSample_claims (h : ClaimLaw s) : ClaimLaw (tableTakeSample s) := by
  unfold tableTakeSample
  split
  · refine h.updated rfl rfl rfl fun i _ c _ hc => ⟨by simp [Capture.queue], fun f hf => ⟨(hc.2 f hf).1, rfl⟩⟩
  · exact h

theorem tableTakeStop_claims (h : ClaimLaw s) : ClaimLaw (tableTakeStop s) := by
  unfold tableTakeStop
  split
  · dsimp only
    obtain ⟨_, e⟩ := tellAll_only (s.table.stopNews s.tableNewest) (s.modTable fun t => t.takeStop s.tableNewest)
    rw [e]
    refine h.updated rfl rfl rfl fun i hi c hc hstand => ?_
    have marked : s.claimsStand { c with flags := { c.flags with stopped := true }, effEnd := c.cutEnd s.tableNewest } := hstand
    unfold Capture.cut
    dsimp only
    split
    · exact ⟨by simp [Capture.queue], fun f hf => ⟨(hstand.2 f hf).1, rfl⟩⟩
    · exact s.claimsStand_becomeReady marked
  · exact h

theorem engineTakeSlot_claims (h : ClaimLaw s) : ClaimLaw (engineTakeSlot s) := by
  unfold engineTakeSlot
  split
  · unfold giveHead
    split
    · exact h
    · rename_i c hc
      refine h.set (fun d hd => ?_) rfl rfl rfl
      obtain rfl := Option.some.inj hd
      exact ⟨by simp, fun f hf => ⟨((h.claimsStand hc).2 f hf).1, rfl⟩⟩
  · exact h

theorem takeEnd_claims {e : Engine} (h : ClaimLaw s) : ClaimLaw (takeEnd e s) := by
  unfold takeEnd
  split
  · rename_i w _
    split
    · rename_i c hc
      obtain ⟨hslot, -, -⟩ := extractsUnder_eq_some hc
      have before : s.claimsStand c := h.claimsStand hslot
      have result : s.claimsStand (c.withResult w) := before
      refine h.set (fun d hd => ?_) rfl rfl rfl
      obtain rfl := Option.some.inj hd
      exact State.claimsStand_becomeReady result
    · obtain ⟨_, e⟩ := returnFromTable_only (s.setEngine e .idle) w.blocks
      rw [e]
      exact h
  · exact h

theorem tableTakeSessionEnd_claims (h : ClaimLaw s) : ClaimLaw (tableTakeSessionEnd l s) := by
  unfold tableTakeSessionEnd
  split
  · exact h
  · have slots (i : Fin 8) {d : Capture} (hd : (s.table.slots[i]).map (Capture.atSessionEnd l) = some d) :
        ∃ c, s.slot i = some c ∧ c.atSessionEnd l = d := Option.map_eq_some_iff.1 hd
    have stands {m : Link} (hm : m ≠ l) (hs : s.sessionStands m) : (tableTakeSessionEnd l s).sessionStands m := by
      unfold tableTakeSessionEnd
      split
      · exact hs
      · simpa [State.sessionStands, PerLink.get_set, hm] using hs
    rename_i hdue
    simp only [tableTakeSessionEnd, if_neg hdue] at stands
    constructor
    · intro i d m hd hp
      obtain ⟨c, hc, rfl⟩ := slots i (by simpa [State.slot] using hd)
      simp only [Capture.atSessionEnd] at hp
      split at hp
      · contradiction
      · rename_i hne
        refine stands (fun e => hne (e ▸ hp)) (h.1 i c m hc hp)
    · intro i d f hd hf
      obtain ⟨c, hc, rfl⟩ := slots i (by simpa [State.slot] using hd)
      simp only [Capture.atSessionEnd, Option.filter_eq_some_iff, bne_iff_ne, ne_eq] at hf
      obtain ⟨hs, hfin⟩ := h.2 i c f hc hf.1
      refine ⟨stands hf.2 hs, ?_⟩
      simp only [Capture.atSessionEnd]
      split
      · rename_i hp
        rw [hp] at hfin
        contradiction
      · exact hfin

/-! ## Rows of the links -/

theorem LinkState.startFrame_session (k : LinkState) (b : FrameBody) : (k.startFrame b).session = k.session := rfl

theorem askReadout_left : ClaimsLeft s (askReadout l s) := by
  unfold askReadout
  split
  · rename_i v b hgiven
    refine ClaimsLeft.trans (t := v) ?_ (ClaimsLeft.modLink fun h => h)
    unfold giveDelivery at hgiven
    repeat' split at hgiven
    all_goals simp only [reduceCtorEq, Option.some.injEq] at hgiven
    · rename_i d _
      obtain ⟨_, e⟩ := giveCurrent_only s l d
      rw [show v = (giveCurrent l d s).1 by rw [hgiven], e]
      exact .of_same rfl rfl rfl
    · rename_i x rest _
      obtain ⟨_, e⟩ := giveEntry_only (s.modReadout l fun q => { q with queue := rest }) l x
      rw [show v = (giveEntry l x _).1 by rw [hgiven], e]
      exact .of_same rfl rfl rfl
  · exact ClaimsLeft.modLink fun h => h

theorem transmitChoose_left : ClaimsLeft s (transmitChoose l s) := by
  unfold transmitChoose
  split
  · refine ClaimsLeft.trans (t := s.modLink l LinkState.takeDueRate) (ClaimsLeft.modLink fun h => by rwa [LinkState.takeDueRate_session]) ?_
    unfold chooseFrame
    dsimp only
    repeat' split
    · exact ClaimsLeft.modLink fun h => h
    · exact ClaimsLeft.modLink fun h => h
    · unfold chooseData
      split
      · exact askReadout_left
      · exact ClaimsLeft.trans (ClaimsLeft.modLink (l := l) (f := fun k => { k with tx := .asking }) fun h => h) (.of_same rfl rfl rfl)
    · exact ClaimsLeft.modLink fun h => h
  · exact .refl

theorem frameSent_left : ClaimsLeft s (frameSent l s) := by
  unfold frameSent
  split
  · refine ClaimsLeft.trans (t := s.modLink l fun k => { k with tx := .idle }) (ClaimsLeft.modLink fun h => h) ?_
    unfold afterFrame afterReply
    repeat' split
    all_goals first
      | exact .refl
      | exact .of_same rfl rfl rfl
      | exact ClaimsLeft.endSession .bye
      | exact ClaimsLeft.modLink fun h => h
  · exact .refl

theorem frameReceived_left : ClaimsLeft s (frameReceived l s) := by
  unfold frameReceived
  split
  · exact .refl
  · rename_i f rest _
    refine ClaimsLeft.trans (t := s.modLink l fun k => { k with complete := rest }) (ClaimsLeft.modLink fun h => h) ?_
    dsimp only
    split
    · exact ClaimsLeft.goodFrame _
    · refine ClaimsLeft.trans ?_ (ClaimsLeft.notify _)
      exact ClaimsLeft.modLink fun h => h

theorem faultRecord_left (r : Reporter) : ClaimsLeft s (faultRecord r s) := by
  unfold faultRecord
  split
  · exact .refl
  · rename_i xs v hpop
    have hv : ClaimsLeft s v := by
      unfold State.popFaults at hpop
      repeat' split at hpop
      all_goals try contradiction
      all_goals
        simp only [Option.some.injEq, Prod.mk.injEq] at hpop
        rw [← hpop.2]
        exact .of_same rfl rfl rfl
    refine hv.trans (ClaimsLeft.trans (t := v.setFaults (xs.foldl FaultLog.record v.faults)) ?_ (ClaimsLeft.notifyBoth _))
    exact .of_same rfl rfl rfl

theorem journalFrameRequest_left : ClaimsLeft s (journalFrameRequest l s) := by
  have dropped : ClaimsLeft s (s.dropJournalLinkIn l) := .of_same rfl rfl rfl
  unfold journalFrameRequest
  repeat' split
  · exact dropped.trans (ClaimsLeft.modLink fun h => h)
  · exact dropped.trans (ClaimsLeft.modLink fun h => h)
  · rename_i x _ _
    refine dropped.trans (ClaimsLeft.trans (t := (s.dropJournalLinkIn l).modJournal fun j => j.setSub l _) (.of_same rfl rfl rfl)
      (ClaimsLeft.modLink fun h => ?_))
    rw [LinkState.startFrame_session, LinkState.takeDueRate_session]
    exact h
  · exact .refl

theorem readoutTakeReady_left : ClaimsLeft s (readoutTakeReady l s) := by
  unfold readoutTakeReady
  dsimp only
  repeat' split
  · refine ClaimsLeft.trans ?_ (ClaimsLeft.notify _)
    exact .of_same rfl rfl rfl
  · exact .of_same rfl rfl rfl
  · refine ClaimsLeft.trans ?_ (ClaimsLeft.notify _)
    exact .of_same rfl rfl rfl
  · exact .refl

end

/-! ## The rows -/

/-- The part's own rows of the links alone, and those that end a session. -/
theorem exec_links_left {i : Instr} {s t : State} (h : exec i s = .next t) (ht : .table ∉ reach i) (hc : hostCommand i = none) : ClaimsLeft s t := by
  have run {f : State → State} (hf : ClaimsLeft s (f s)) (e : unlessHeld f s = .next t) : ClaimsLeft s t := by
    obtain rfl : (if s.resetPin then s else f s) = t := by simpa [unlessHeld] using e
    split
    · exact .refl
    · exact hf
  by_cases hr : .links ∈ reach i ∨ .tableEnds ∈ reach i
  swap
  · rw [not_or] at hr
    exact .of_same (exec_same h ht) (exec_same h hr.1) (exec_same h hr.2)
  revert h
  cases i
  case faultRecord r => exact run (faultRecord_left r)
  case journalFrameRequest l => exact run journalFrameRequest_left
  case readoutTakeReady l => exact run readoutTakeReady_left
  case frameReceived l => exact run frameReceived_left
  case gapTimeout l => exact run (f := fun s => s.modLink l _) (ClaimsLeft.modLink fun h => by unfold LinkState.gapTimeout; split <;> exact h)
  case characterFramingError l w =>
    exact run (f := fun s => s.modLink l _) (ClaimsLeft.modLink fun h => by unfold LinkState.framingError; split <;> exact h)
  case characterReceived l c => exact run (f := fun s => s.modLink l _) (ClaimsLeft.modLink fun h => h)
  case linkRateTakeUp l => exact run (ClaimsLeft.modLink fun h => by rwa [LinkState.takeFreeRate_session])
  case transmitChoose l => exact run transmitChoose_left
  case frameSent l => exact run frameSent_left
  case lineBreak l w =>
    refine run ?_
    unfold lineBreaks
    split
    · refine ClaimsLeft.trans ?_ (ClaimsLeft.endSession _)
      exact ClaimsLeft.modLink fun h => h
    · exact .refl
  case sessionTimeout l =>
    refine run ?_
    unfold sessionTimeout
    split
    · exact ClaimsLeft.endSession _
    · exact .refl
  all_goals first
    | (simp [hostCommand] at hc; done)
    | (simp [reach] at ht; done)
    | simp [reach] at hr

/-- What a command's row does: the owner leaves the links and the claims, or does what the lemmas above say. -/
theorem exec_command_keeps_claims {i : Instr} {s t : State} (hs : s.LinksLawful ∧ ClaimLaw s) (h : exec i s = .next t)
    (hc : (hostCommand i).isSome = true) : ClaimLaw t := by
  have run {f : State → State} (hf : ClaimLaw (f s)) (e : unlessHeld f s = .next t) : ClaimLaw t :=
    unlessHeld_keeps (P := ClaimLaw) (fun _ => hf) hs.2 e
  revert h
  cases i
  case hello l seq => exact run (commandRow_keeps_claims (fun hu hin h => ⟨helloOwner_links hu hin h, fun hk => hk.left (helloOwner_left h)⟩) hs)
  case bye l seq => exact run (commandRow_keeps_claims (fun hu hin h => ⟨byeOwner_links hu hin h, fun hk => hk.left (byeOwner_left h)⟩) hs)
  case set l seq id v => exact run (commandRow_keeps_claims (fun hu hin h => ⟨setOwner_links hu hin h, fun hk => hk.left (setOwner_left h)⟩) hs)
  case ping =>
    refine run (commandRow_keeps_claims_of_same (by simp) (fun _ h => ?_) hs)
    obtain rfl := pingOwner_only _ _ h
    exact ⟨rfl, id⟩
  case get =>
    refine run (commandRow_keeps_claims_of_same (by simp) (fun _ h => ?_) hs)
    obtain rfl := getOwner_only _ _ _ h
    exact ⟨rfl, id⟩
  case snapshot =>
    refine run (commandRow_keeps_claims_of_same (by simp) (fun _ h => ?_) hs)
    obtain rfl := snapshotOwner_only _ h
    exact ⟨rfl, id⟩
  case slotStatus =>
    refine run (commandRow_keeps_claims_of_same (by simp) (fun _ h => ?_) hs)
    obtain rfl := slotStatusOwner_only _ _ _ h
    exact ⟨rfl, id⟩
  case faultsRead =>
    refine run (commandRow_keeps_claims_of_same (by simp) (fun _ h => ?_) hs)
    obtain rfl := faultsReadOwner_only _ h
    exact ⟨rfl, id⟩
  case deviceReset =>
    refine run (commandRow_keeps_claims_of_same (by simp) (fun _ h => ?_) hs)
    obtain ⟨_, rfl⟩ := deviceResetOwner_only _ _ _ h
    exact ⟨rfl, fun hu => hu.left (.of_same rfl rfl rfl)⟩
  case start =>
    refine run (commandRow_keeps_claims_of_same (by simp) (fun _ h => ?_) hs)
    obtain ⟨_, _, _, _, _, _, _, _, rfl⟩ := startOwner_only _ h
    exact ⟨rfl, fun hu => hu.left (.of_same rfl rfl rfl)⟩
  case stop =>
    refine run (commandRow_keeps_claims_of_same (by simp) (fun _ h => ?_) hs)
    obtain ⟨_, _, _, _, _, rfl⟩ := stopOwner_only _ h
    exact ⟨rfl, fun hu => hu.left (.of_same rfl rfl rfl)⟩
  case journalSubscribe =>
    refine run (commandRow_keeps_claims_of_same (by simp) (fun _ h => ?_) hs)
    obtain ⟨_, rfl⟩ := subscribeOwner_only _ _ _ h
    exact ⟨rfl, fun hu => hu.left (.of_same rfl rfl rfl)⟩
  case journalAck =>
    refine run (commandRow_keeps_claims_of_same (by simp) (fun _ h => ?_) hs)
    obtain ⟨_, rfl⟩ := ackOwner_only _ _ _ h
    exact ⟨rfl, fun hu => hu.left (.of_same rfl rfl rfl)⟩
  case journalRewind =>
    refine run (commandRow_keeps_claims_of_same (by simp) (fun _ h => ?_) hs)
    obtain ⟨_, rfl⟩ := rewindOwner_only _ _ h
    exact ⟨rfl, fun hu => hu.left (.of_same rfl rfl rfl)⟩
  case journalUnsubscribe =>
    refine run (commandRow_keeps_claims_of_same (by simp) (fun _ h => ?_) hs)
    obtain ⟨_, rfl⟩ := unsubscribeOwner_only _ _ h
    exact ⟨rfl, fun hu => hu.left (.of_same rfl rfl rfl)⟩
  case testCancel =>
    refine run (commandRow_keeps_claims_of_same (by simp) (fun _ h => ?_) hs)
    obtain ⟨_, rfl⟩ := testCancelOwner_only _ h
    exact ⟨rfl, fun hu => hu.left (.of_same rfl rfl rfl)⟩
  case faultsClear =>
    refine run (commandRow_keeps_claims_of_same (by simp) (fun _ h => ?_) hs)
    obtain ⟨_, rfl⟩ := faultsClearOwner_only _ _ h
    exact ⟨rfl, fun hu => hu.left (.of_same rfl rfl rfl)⟩
  case trigger =>
    refine run (commandRow_keeps_claims_of_same (by simp) (fun _ h => ⟨?_, triggerOwner_claims h⟩) hs)
    obtain ⟨_, _, rfl⟩ := triggerOwner_only _ _ h
    rfl
  case abort =>
    refine run (commandRow_keeps_claims_of_same (by simp) (fun _ h => ⟨?_, abortOwner_claims h⟩) hs)
    obtain ⟨_, _, _, _, rfl⟩ := abortOwner_only _ _ _ _ h
    rfl
  case fetch =>
    refine run (commandRow_keeps_claims_of_same (by simp) (fun hl h => ⟨?_, fetchOwner_claims hl h⟩) hs)
    obtain ⟨_, _, rfl⟩ := fetchOwner_only _ _ _ _ _ h
    rfl
  case release =>
    refine run (commandRow_keeps_claims_of_same (by simp) (fun _ h => ⟨?_, releaseOwner_claims h⟩) hs)
    obtain ⟨_, _, _, rfl⟩ := releaseOwner_only _ _ _ _ h
    rfl
  case test =>
    refine run (commandRow_keeps_claims_of_same (by simp) (fun _ h => ⟨?_, testOwner_claims h⟩) hs)
    obtain ⟨_, _, _, rfl⟩ := testOwner_only _ _ _ _ _ _ _ _ _ h
    rfl
  all_goals simp [hostCommand] at hc

theorem exec_keeps_claims {i : Instr} {s t : State} (hs : s.LinksLawful ∧ ClaimLaw s) (h : exec i s = .next t) : ClaimLaw t := by
  by_cases hc : (hostCommand i).isSome = true
  · exact exec_command_keeps_claims hs h hc
  have hc : hostCommand i = none := by simpa using hc
  by_cases ht : .table ∈ reach i
  swap
  · exact hs.2.left (exec_links_left h ht hc)
  revert h
  cases i
  case triggerUnitTakeSample => exact unlessHeld_keeps (P := ClaimLaw) trigUnitTakeSample_claims hs.2
  case alertCountdownExpiry =>
    refine unlessHeld_keeps (P := ClaimLaw) (fun hu => ?_) hs.2
    split
    · exact trigUnitTakeSample_claims hu
    · exact hu
  case slotTableTakeSample => exact unlessHeld_keeps (P := ClaimLaw) tableTakeSample_claims hs.2
  case slotTableTakeStop => exact unlessHeld_keeps (P := ClaimLaw) tableTakeStop_claims hs.2
  case slotTableOffer =>
    refine unlessHeld_keeps (P := ClaimLaw) (fun hu => ?_) hs.2
    unfold tableTakeOffer
    split
    · exact hu
    · rename_i o rest _
      have offered := takeOffer_claims (s := s.modWires fun w => { w with lineOffers := rest }) o hu
      exact offered
  case engineTakeSlot => exact unlessHeld_keeps (P := ClaimLaw) engineTakeSlot_claims hs.2
  case extractionEndTaken => exact unlessHeld_keeps (P := ClaimLaw) takeEnd_claims hs.2
  case slotTableTakeSessionEnd => exact unlessHeld_keeps (P := ClaimLaw) tableTakeSessionEnd_claims hs.2
  case resetCarriedOut =>
    exact unlessHeld_keeps (P := ClaimLaw) (resetCarriedOut_keeps (P := ClaimLaw) fun keep _ => claimLaw_of_fresh rfl) hs.2
  case hardReset => exact fun h => exec_hardReset h ▸ claimLaw_of_fresh rfl
  all_goals first
    | (simp [hostCommand] at hc; done)
    | simp [reach] at ht

/-- Settles O12. -/
theorem claimsNeedASession : Obligations.ClaimsNeedASession := by
  unfold Obligations.ClaimsNeedASession
  refine step_keeps (P := fun s => s.LinksLawful ∧ ClaimLaw s) (ps := [.links, .table, .tableEnds])
    (fun {s t} hsame hs => ⟨hs.1.congr (hsame .links (by simp)), hs.2.left ?_⟩) (by simp) (fun _ s hs => ⟨?_, hs.2.left ?_⟩)
    (fun i _ {s t} hs h => ⟨exec_keeps_links hs.1 h, exec_keeps_claims hs h⟩)
  · exact .of_same (hsame .table (by simp)) (hsame .links (by simp)) (hsame .tableEnds (by simp))
  · exact millisecond_keeps_links hs.1
  · have passed (k : LinkState) (h : k.session ≠ none) :
        (if k.session.isSome then { k with sinceGood := k.sinceGood + 1 } else k).session ≠ none := by split <;> exact h
    unfold millisecond
    split
    · exact .refl
    · exact ClaimsLeft.trans (ClaimsLeft.modLink (l := .A) (passed _)) (ClaimsLeft.modLink (passed _))

end Sys2Proof.Machine
end

section
/-! SUPPORT. Every row keeps the law of the pool (O10): the 128 blocks are counted place by place, and a row moves blocks between two places. -/

-- One theorem at a time: the proofs of so long a text would each hold a thread.
set_option Elab.async false

namespace Sys2Proof.Machine

/-! ## Counting blocks place by place -/

/-- A number summed over both engines. -/
def PerEngine.total {α : Type} (p : PerEngine α) (f : α → Nat) : Nat := f p.x0 + f p.x1

theorem PerEngine.total_set {α : Type} (p : PerEngine α) (e : Engine) (x : α) (f : α → Nat) :
    (p.set e x).total f + f (p.get e) = p.total f + f x := by
  cases e <;> simp only [PerEngine.total, PerEngine.set, PerEngine.get] <;> omega

/-- How often a block is held by the slots. -/
def SlotTable.count (t : SlotTable) (b : Nat) : Nat := ∑ i : Fin 8, (t.blocksOf i).count b

/-- How often a block stands in the places of R100. -/
def State.blockCount (s : State) (b : Nat) : Nat :=
  s.pool.count b + s.table.count b + s.engines.total (fun x => x.blocks.count b)
    + s.wires.blockAnswers.total (fun as => (blocksGranted as).count b)
    + s.wires.tableReturns.flatten.count b + s.wires.engineReturns.total (fun rs => rs.flatten.count b)

theorem State.count_allBlocks (s : State) (b : Nat) : s.allBlocks.count b = s.blockCount b := by
  have slots : ((List.finRange 8).flatMap s.table.blocksOf).count b = s.table.count b := by
    rw [List.count_flatMap, SlotTable.count, Fin.sum_univ_def]
    rfl
  simp only [State.allBlocks, List.count_append, slots, State.blockCount, PerEngine.total]
  omega

theorem poolLaw_iff {s : State} : PoolLaw s ↔
    (∀ b, s.blockCount b = (List.range 128).count b) ∧ (∀ i c, s.slot i = some c → CaptureLaw c) ∧ ∀ e, EngineLaw (s.engines.get e) := by
  unfold PoolLaw
  rw [List.perm_iff_count]
  simp only [State.count_allBlocks]
  refine and_congr_right fun _ => and_congr_right fun _ => ⟨fun ⟨h0, h1⟩ e => ?_, fun h => ⟨h .e0, h .e1⟩⟩
  cases e
  · exact h0
  · exact h1

section
variable {s t u : State} {l : Link} {e : Engine}

/-- A row that leaves every block's count, and what its captures and engines then hold. -/
theorem PoolLaw.moved (h : PoolLaw s) (hcount : ∀ b, t.blockCount b = s.blockCount b) (hslots : ∀ i c, t.slot i = some c → CaptureLaw c)
    (hengines : ∀ e, EngineLaw (t.engines.get e)) : PoolLaw t :=
  poolLaw_iff.2 ⟨fun b => (hcount b).trans ((poolLaw_iff.1 h).1 b), hslots, hengines⟩

theorem PoolLaw.capture (h : PoolLaw s) {i : Fin 8} {c : Capture} (hc : s.slot i = some c) : CaptureLaw c := (poolLaw_iff.1 h).2.1 i c hc

theorem PoolLaw.engine (h : PoolLaw s) (e : Engine) : EngineLaw (s.engines.get e) := (poolLaw_iff.1 h).2.2 e

/-! ## The slots -/

theorem SlotTable.blocksOf_eq {t : SlotTable} {i : Fin 8} {x : Option Capture} (h : t.slots[i] = x) : t.blocksOf i = (x.map (·.blocks)).getD [] := by
  rw [SlotTable.blocksOf, h]

/-- One slot's record replaced: its blocks go, the new ones come. -/
theorem SlotTable.count_set {t v : SlotTable} {i : Fin 8} {x : Option Capture} (h : v.slots = t.slots.set i x) (b : Nat) :
    v.count b + (t.blocksOf i).count b = t.count b + ((x.map (·.blocks)).getD []).count b := by
  have at_i : v.blocksOf i = (x.map (·.blocks)).getD [] := SlotTable.blocksOf_eq (by rw [h, SlotTable.set_slots, if_pos rfl])
  have elsewhere (k : Fin 8) (hk : k ∈ Finset.univ.erase i) : (v.blocksOf k).count b = (t.blocksOf k).count b := by
    rw [SlotTable.blocksOf, h, SlotTable.set_slots, if_neg (Finset.ne_of_mem_erase hk), SlotTable.blocksOf]
  have hv := Finset.add_sum_erase Finset.univ (fun k => (v.blocksOf k).count b) (Finset.mem_univ i)
  have ht := Finset.add_sum_erase Finset.univ (fun k => (t.blocksOf k).count b) (Finset.mem_univ i)
  rw [Finset.sum_congr rfl elsewhere, at_i] at hv
  simp only [SlotTable.count]
  omega

/-- Captures changed in place with the blocks they hold. -/
theorem SlotTable.count_congr {t v : SlotTable} (h : ∀ i, v.blocksOf i = t.blocksOf i) (b : Nat) : v.count b = t.count b := by
  simp only [SlotTable.count, h]

/-- A row of the slot table alone, whose captures keep their blocks. -/
theorem PoolLaw.tableChanged (h : PoolLaw s) (hblocks : ∀ i, t.table.blocksOf i = s.table.blocksOf i)
    (hslots : ∀ i c, t.slot i = some c → CaptureLaw c) (hp : t.pool = s.pool) (he : t.engines = s.engines)
    (ha : t.wires.blockAnswers = s.wires.blockAnswers) (ht : t.wires.tableReturns = s.wires.tableReturns)
    (hr : t.wires.engineReturns = s.wires.engineReturns) : PoolLaw t := by
  refine h.moved (fun b => ?_) hslots fun e => he ▸ h.engine e
  simp only [State.blockCount, SlotTable.count_congr hblocks, hp, he, ha, ht, hr]

/-- Nothing of the places of blocks is changed. -/
theorem PoolLaw.congr (h : PoolLaw s) (hs : t.table = s.table) (hp : t.pool = s.pool) (he : t.engines = s.engines)
    (ha : t.wires.blockAnswers = s.wires.blockAnswers) (ht : t.wires.tableReturns = s.wires.tableReturns)
    (hr : t.wires.engineReturns = s.wires.engineReturns) : PoolLaw t :=
  h.tableChanged (fun i => by rw [hs]) (fun i c hc => h.capture (i := i) (by rwa [State.slot, hs] at hc)) hp he ha ht hr

/-- One slot's record replaced by one with the same blocks. -/
theorem PoolLaw.slotSet (h : PoolLaw s) {i : Fin 8} {x : Option Capture} (hx : ∀ d, x = some d → CaptureLaw d)
    (hb : (x.map (·.blocks)).getD [] = s.table.blocksOf i) (hs : t.table.slots = s.table.slots.set i x) (hp : t.pool = s.pool)
    (he : t.engines = s.engines) (ha : t.wires.blockAnswers = s.wires.blockAnswers) (ht : t.wires.tableReturns = s.wires.tableReturns)
    (hr : t.wires.engineReturns = s.wires.engineReturns) : PoolLaw t := by
  refine h.tableChanged (fun k => ?_) (fun k d hd => ?_) hp he ha ht hr
  · rw [SlotTable.blocksOf, hs, SlotTable.set_slots]
    split
    · rename_i e
      rw [e, hb]
    · rfl
  · rw [State.slot, hs, SlotTable.set_slots] at hd
    split at hd
    · exact hx d hd
    · exact h.capture hd

theorem takeOffer_pool (o : Offer) (h : PoolLaw s) : PoolLaw (takeOffer o s).1 := by
  unfold takeOffer
  split
  · exact h
  · rename_i j hj
    refine h.slotSet (fun d hd => ?_) ?_ rfl rfl rfl rfl rfl rfl
    · obtain rfl := Option.some.inj hd
      refine ⟨fun _ => ⟨rfl, rfl⟩, fun hfin => ?_⟩
      simp only [JudgedOffer.capture] at hfin
      split at hfin <;> contradiction
    · rw [SlotTable.blocksOf_eq (judgeOffer_slot hj)]
      rfl

theorem triggerOwner_pool {o : Offer} {body : ReplyBody} {after : AfterReply} (hs : PoolLaw s)
    (h : triggerOwner o s = some (t, body, after)) : PoolLaw t := by
  have offered := takeOffer_pool o hs
  unfold triggerOwner at h
  split at h
  all_goals
    rename_i hoffer
    simp only [Option.some.injEq, Prod.mk.injEq] at h
    obtain ⟨rfl, -, -⟩ := h
    rw [hoffer] at offered
    exact offered

theorem testOwner_pool {channels : Bitmap} {delay width gap trigDelay label : BitVec 16} {count slot : Byte} {body : ReplyBody} {after : AfterReply}
    (hs : PoolLaw s) (h : testOwner channels delay width gap count slot trigDelay label s = some (t, body, after)) : PoolLaw t := by
  have offered (f : TestFields) (i : Fin 8) : PoolLaw (offerTest f i s).1 := by
    have offered := takeOffer_pool (testOffer f i) hs
    unfold offerTest
    split
    all_goals
      rename_i hoffer
      rw [hoffer] at offered
      exact offered
  unfold testOwner at h
  repeat' split at h
  all_goals
    simp only [Option.some.injEq, Prod.mk.injEq] at h
    obtain ⟨rfl, -, -⟩ := h
    first
      | exact hs
      | exact offered _ _

theorem tableTakeFetch_pool {i : Fin 8} {claim : Bool} {fromPart : Nat} (hs : PoolLaw s) : PoolLaw (tableTakeFetch l i claim fromPart s).1 := by
  have pending (c : Capture) (hc : s.slot i = some c) : PoolLaw (fetchPending l i c claim fromPart s).1 := by
    unfold fetchPending
    split
    · exact hs
    · refine hs.slotSet (i := i) (fun d hd => ?_) (by rw [SlotTable.blocksOf_eq hc]; rfl) rfl rfl rfl rfl rfl rfl
      obtain rfl := Option.some.inj hd
      exact { hs.capture hc with }
  have queued (c : Capture) (p : Phase) (hc : s.slot i = some c) (hp : p.finished = c.phase.finished) :
      PoolLaw (fetchQueued l i c p fromPart s).1 := by
    refine hs.slotSet (i := i) (fun d hd => ?_) (by rw [SlotTable.blocksOf_eq hc]; rfl) rfl rfl rfl rfl rfl rfl
    obtain rfl := Option.some.inj hd
    exact ⟨fun hfin => (hs.capture hc).before (hp ▸ hfin), fun hfin => (hs.capture hc).after (hp ▸ hfin)⟩
  unfold tableTakeFetch
  split
  · exact hs
  · rename_i c hc
    split
    · exact pending c hc
    · exact pending c hc
    · exact pending c hc
    · rename_i hp
      refine queued c _ hc ?_
      rw [hp]
      split <;> rfl
    · rename_i hp
      split
      · exact hs
      · exact queued c _ hc (by rw [hp])

theorem fetchOwner_pool {slot claim fromPart : Byte} {body : ReplyBody} {after : AfterReply} (hs : PoolLaw s)
    (h : fetchOwner l slot claim fromPart s = some (t, body, after)) : PoolLaw t := by
  unfold fetchOwner at h
  repeat' split at h
  all_goals first
    | contradiction
    | simp only [Option.some.injEq, Prod.mk.injEq] at h
      obtain ⟨rfl, -, -⟩ := h
      first
        | exact hs
        | exact tableTakeFetch_pool hs

theorem transitionRules_pool (tick : Nat) (c : Change) (h : PoolLaw s) : PoolLaw (transitionRules tick s c) := by
  have answered (a : Answer) {v : State} (hv : PoolLaw v) : PoolLaw (autoAnswered c tick a v) := by
    unfold autoAnswered
    repeat' split
    all_goals exact hv
  have ruled {v : State} (hv : PoolLaw v) : PoolLaw (autoRule c tick v) := by
    unfold autoRule
    split
    · exact hv
    · refine answered _ (takeOffer_pool _ ?_)
      exact hv
  have alerted : PoolLaw (if c.alert then alertRule c tick s else s) := by
    split
    · obtain ⟨_, _, e⟩ := alertRule_only s c tick
      rw [e]
      exact h
    · exact h
  unfold transitionRules
  split
  · dsimp only
    split
    · exact ruled alerted
    · exact alerted
  · exact h

theorem trigUnitTakeSample_pool (h : PoolLaw s) : PoolLaw (trigUnitTakeSample s) := by
  have folded (k : Nat) (cs : List Change) {v : State} (hv : PoolLaw v) : PoolLaw (cs.foldl (transitionRules k) v) := by
    induction cs generalizing v with
    | nil => exact hv
    | cons x xs ih => exact ih (transitionRules_pool k x hv)
  unfold trigUnitTakeSample
  split
  · rename_i c rest _
    refine folded c.tick c.changes ?_
    exact h
  · exact h

/-- Captures changed in place: they keep their blocks and meet their law. -/
theorem PoolLaw.mapped (h : PoolLaw s) (f : Fin 8 → Capture → Capture) (hs : ∀ i : Fin 8, t.table.slots[i] = (s.table.slots[i]).map (f i))
    (hf : ∀ i c, s.slot i = some c → (f i c).blocks = c.blocks ∧ CaptureLaw (f i c)) (hp : t.pool = s.pool) (he : t.engines = s.engines)
    (ha : t.wires.blockAnswers = s.wires.blockAnswers) (ht : t.wires.tableReturns = s.wires.tableReturns)
    (hr : t.wires.engineReturns = s.wires.engineReturns) : PoolLaw t := by
  refine h.tableChanged (fun i => ?_) (fun i d hd => ?_) hp he ha ht hr
  · rw [SlotTable.blocksOf, hs, SlotTable.blocksOf]
    cases hc : s.table.slots[i] with
    | none => rfl
    | some c => exact (hf i c hc).1
  · rw [State.slot, hs] at hd
    obtain ⟨c, hc, rfl⟩ := Option.map_eq_some_iff.1 hd
    exact (hf i c hc).2

theorem CaptureLaw.queued {c : Capture} (h : CaptureLaw c) (hc : c.phase.finished = false) : CaptureLaw c.queue :=
  ⟨fun _ => h.before hc, fun hfin => absurd hfin (by simp [Capture.queue, Phase.finished])⟩

theorem Capture.becomeReady_finished (c : Capture) : c.becomeReady.phase.finished = true := by
  unfold Capture.becomeReady
  dsimp only
  split
  · split <;> rfl
  · rfl

theorem tableTakeSample_pool (h : PoolLaw s) : PoolLaw (tableTakeSample s) := by
  unfold tableTakeSample
  split
  · rename_i x rest _
    refine h.mapped (fun i c => if i ∈ s.table.select (Capture.dueAt x.tick) then c.queue else c) (s.table.update_slots _ _) (fun i c hc => ?_)
      rfl rfl rfl rfl rfl
    split
    · rename_i hi
      have hdue := SlotTable.select_phase hi hc
      simp only [Capture.dueAt, Bool.and_eq_true, beq_iff_eq] at hdue
      exact ⟨rfl, (h.capture hc).queued (by rw [hdue.1]; rfl)⟩
    · exact ⟨rfl, h.capture hc⟩
  · exact h

theorem tableTakeStop_pool (h : PoolLaw s) : PoolLaw (tableTakeStop s) := by
  unfold tableTakeStop
  split
  · dsimp only
    obtain ⟨_, e⟩ := tellAll_only (s.table.stopNews s.tableNewest) (s.modTable fun t => t.takeStop s.tableNewest)
    rw [e]
    refine h.mapped (fun i c => if i ∈ s.table.select Capture.isArmed then c.cut s.tableNewest else c) (s.table.update_slots _ _) (fun i c hc => ?_)
      rfl rfl rfl rfl rfl
    split
    · rename_i hi
      have harmed : c.phase = .armed := by simpa [Capture.isArmed] using SlotTable.select_phase hi hc
      have hempty := (h.capture hc).before (by rw [harmed]; rfl)
      have marked : CaptureLaw { c with flags := { c.flags with stopped := true }, effEnd := c.cutEnd s.tableNewest } := { h.capture hc with }
      unfold Capture.cut
      dsimp only
      split
      · exact ⟨rfl, marked.queued (by rw [harmed]; rfl)⟩
      · refine ⟨rfl, fun hfin => ?_, fun _ => ?_⟩
        · rw [Capture.becomeReady_finished] at hfin
          contradiction
        · simp [Capture.becomeReady, hempty, ceilDiv]
    · exact ⟨rfl, h.capture hc⟩
  · exact h

theorem tableTakeSessionEnd_pool (h : PoolLaw s) : PoolLaw (tableTakeSessionEnd l s) := by
  unfold tableTakeSessionEnd
  split
  · exact h
  · refine h.mapped (fun _ => Capture.atSessionEnd l) (fun k => by simp) (fun i c hc => ⟨rfl, ?_⟩) rfl rfl rfl rfl rfl
    have hlaw := h.capture hc
    have hfin : (c.atSessionEnd l).phase.finished = c.phase.finished := by
      simp only [Capture.atSessionEnd]
      split
      · rename_i hp
        rw [hp]; rfl
      · rfl
    exact ⟨fun hf => hlaw.before (hfin ▸ hf), fun hf => hlaw.after (hfin ▸ hf)⟩

/-! ## Blocks handed back -/

theorem returnFromTable_flatten (bs : List Nat) (s : State) (b : Nat) :
    (s.returnFromTable bs).wires.tableReturns.flatten.count b = s.wires.tableReturns.flatten.count b + bs.count b := by
  cases bs with
  | nil => simp [State.returnFromTable]
  | cons x xs => simp [State.returnFromTable, List.count_append]

theorem returnFromEngine_total (e : Engine) (bs : List Nat) (s : State) (b : Nat) :
    (s.returnFromEngine e bs).wires.engineReturns.total (fun rs => rs.flatten.count b) =
      s.wires.engineReturns.total (fun rs => rs.flatten.count b) + bs.count b := by
  cases bs with
  | nil => simp [State.returnFromEngine]
  | cons x xs =>
    have h := s.wires.engineReturns.total_set e (s.wires.engineReturns.get e ++ [x :: xs]) (fun rs => rs.flatten.count b)
    simp only [List.flatten_append, List.count_append, List.flatten_cons, List.flatten_nil, List.append_nil] at h
    simp only [State.returnFromEngine, List.isEmpty_cons, Bool.false_eq_true, ↓reduceIte, State.modWires_wires]
    omega

theorem emptySlot_pool {i : Fin 8} {c : Capture} (h : PoolLaw s) (hc : s.slot i = some c) : PoolLaw (emptySlot i c s) := by
  have hreturn := returnFromTable_flatten c.blocks (s.modTable fun t => t.clear i)
  obtain ⟨_, e⟩ := returnFromTable_only (s.modTable fun t => t.clear i) c.blocks
  have hslots : (emptySlot i c s).table.slots = s.table.slots.set i none := by rw [emptySlot, e]; rfl
  refine h.moved (fun b => ?_) (fun k d hd => ?_) fun g => ?_
  · have hcount := SlotTable.count_set hslots b
    rw [SlotTable.blocksOf_eq hc] at hcount
    have hb := hreturn b
    rw [emptySlot, e] at hcount ⊢
    rw [e] at hb
    simp only [Option.map_some, Option.getD_some, Option.map_none, Option.getD_none, List.count_nil] at hcount
    simp only [State.blockCount, State.modTable_pool, State.modTable_engines, State.modTable_wires] at hb hcount ⊢
    omega
  · rw [State.slot, hslots, SlotTable.set_slots] at hd
    split at hd
    · contradiction
    · exact h.capture hd
  · rw [emptySlot, e]
    exact h.engine g

theorem abortWork_pool (i : Fin 8) (c : Capture) (h : PoolLaw s) : PoolLaw (abortWork i c s) ∧ (abortWork i c s).slot i = s.slot i := by
  have dropped (e : Engine) {v : State} (hv : PoolLaw v ∧ v.slot i = s.slot i) :
      PoolLaw (orderDrop e i c.serial v) ∧ (orderDrop e i c.serial v).slot i = s.slot i := by
    unfold orderDrop
    split <;> exact hv
  unfold abortWork
  split
  · exact ⟨h, rfl⟩
  · exact dropped .e1 (dropped .e0 ⟨h, rfl⟩)
  · exact ⟨h, rfl⟩

theorem abortOwner_pool {slot force : Byte} {body : ReplyBody} {after : AfterReply} (hs : PoolLaw s)
    (h : abortOwner l slot force s = some (t, body, after)) : PoolLaw t := by
  have accepted {i : Fin 8} {c : Capture} (hc : s.slot i = some c) : PoolLaw (acceptAbort i c s) := by
    obtain ⟨hw, hslot⟩ := abortWork_pool i c hs
    exact emptySlot_pool hw (hslot.trans hc)
  unfold abortOwner at h
  repeat' split at h
  all_goals try contradiction
  all_goals
    simp only [Option.some.injEq, Prod.mk.injEq] at h
    obtain ⟨rfl, -, -⟩ := h
    first
      | exact hs
      | exact accepted ‹_›

theorem releaseOwner_pool {slot : Byte} {serial : BitVec 16} {body : ReplyBody} {after : AfterReply} (hs : PoolLaw s)
    (h : releaseOwner l slot serial s = some (t, body, after)) : PoolLaw t := by
  unfold releaseOwner at h
  repeat' split at h
  all_goals try contradiction
  all_goals
    simp only [Option.some.injEq, Prod.mk.injEq] at h
    obtain ⟨rfl, -, -⟩ := h
    first
      | exact hs
      | exact emptySlot_pool hs ‹_›

/-! ## The engines -/

theorem EngineState.blocks_idle : EngineState.idle.blocks = [] := rfl
theorem EngineState.blocks_working (w : Working) : (EngineState.working w).blocks = w.blocks := rfl
theorem EngineState.blocks_ending (w : Working) : (EngineState.ending w).blocks = w.blocks := rfl

theorem EngineLaw.get_set {p : PerEngine EngineState} (h : ∀ e, EngineLaw (p.get e)) {x : EngineState} (hx : EngineLaw x) (g : Engine) :
    EngineLaw ((p.set e x).get g) := by
  rw [PerEngine.get_set]
  split
  · exact hx
  · exact h g

/-- An engine's state replaced by one that holds the same blocks. -/
theorem PoolLaw.engineSet (h : PoolLaw s) {x : EngineState} (hx : EngineLaw x) (hb : x.blocks = (s.engines.get e).blocks)
    (hs : t.table = s.table) (hp : t.pool = s.pool) (he : t.engines = s.engines.set e x)
    (ha : t.wires.blockAnswers = s.wires.blockAnswers) (ht : t.wires.tableReturns = s.wires.tableReturns)
    (hr : t.wires.engineReturns = s.wires.engineReturns) : PoolLaw t := by
  refine h.moved (fun b => ?_) (fun i c hc => h.capture (i := i) (by rwa [State.slot, hs] at hc)) fun g => he ▸ EngineLaw.get_set h.engine hx g
  have htotal := s.engines.total_set e x (fun x => x.blocks.count b)
  simp only [hb] at htotal
  simp only [State.blockCount, hs, hp, he, ha, ht, hr]
  omega

theorem Working.findInitial_keeps (w : Working) (rows : List ReadRow) :
    (w.findInitial rows).1.records = w.records ∧ (w.findInitial rows).1.blocks = w.blocks := by
  induction rows generalizing w with
  | nil => exact ⟨rfl, rfl⟩
  | cons r rest ih =>
    unfold Working.findInitial
    split
    · exact ih _
    · exact ⟨rfl, rfl⟩

theorem Reading.begin_empty (r : Reading) (a : ReadAnswer) (n : Nat) : (r.begin a n).1.records = [] ∧ (r.begin a n).1.blocks = [] :=
  Working.findInitial_keeps (r.begun a.oldest n) _

theorem extractionBegin_pool (h : PoolLaw s) : PoolLaw (extractionBegin e s) := by
  unfold extractionBegin
  split
  · rename_i r hr
    split
    · exact h
    · rename_i a _
      obtain ⟨hrec, hblocks⟩ := Reading.begin_empty r a (s.time.runStart.getD 1)
      refine h.engineSet (e := e) (x := .working (r.begin a (s.time.runStart.getD 1)).1) ⟨?_, ?_⟩ ?_ rfl rfl rfl rfl rfl rfl
      · simp [hrec]
      · simp [hrec, ceilDiv]
      · rw [EngineState.blocks_working, hblocks, hr]
        rfl
  · exact h

theorem Working.setDown_keeps {w : Working} (hw : EngineLaw (.working w)) (p : Placing) :
    EngineLaw (.working (w.setDown p).1) ∧ (w.setDown p).1.blocks = w.blocks := by
  obtain ⟨hlen, hroom⟩ := hw
  unfold Working.setDown
  split
  · rename_i hempty
    rw [List.isEmpty_iff] at hempty
    exact ⟨⟨by simpa [Working.place, hempty] using hlen, by simpa [Working.place, hempty] using hroom⟩, rfl⟩
  · split
    · exact ⟨⟨hlen, hroom⟩, rfl⟩
    · rename_i hfits
      have hfits : ¬ w.records.length + p.records.length > 1024 := hfits
      split
      · rename_i hr
        simp only [Working.hasRoom, decide_eq_true_eq] at hr
        exact ⟨⟨by simp only [Working.place, List.length_append]; omega, by simpa [Working.place, Config.blockRecords] using hr⟩, rfl⟩
      · exact ⟨⟨hlen, hroom⟩, rfl⟩

/-- An engine that takes new working values with the blocks it had. -/
theorem setWorking_pool (h : PoolLaw s) {x : Working × Bool} (hx : EngineLaw (.working x.1)) (hb : x.1.blocks = (s.engines.get e).blocks) :
    PoolLaw (s.setWorking e x) := by
  unfold State.setWorking
  dsimp only
  split
  · exact h.engineSet (e := e) hx hb rfl rfl rfl rfl rfl rfl
  · exact h.engineSet (e := e) hx hb rfl rfl rfl rfl rfl rfl

theorem extractionRow_pool (h : PoolLaw s) : PoolLaw (extractionRow e s) := by
  unfold extractionRow
  split
  · rename_i w hw
    have hlaw := h.engine e
    rw [hw] at hlaw
    split
    · rename_i r rest _ _
      split
      · exact h.engineSet (e := e) (x := .working { w with rows := rest, flags := { w.flags with rowError := true } }) hlaw (by rw [hw]; rfl) rfl rfl
          rfl rfl rfl rfl
      · rename_i levels test _
        dsimp only
        set reached : Working := { w with rows := rest, flags := { w.flags with testSeen := w.flags.testSeen || test } } with hreached
        have hr : EngineLaw (.working reached) := hlaw
        obtain ⟨hx, hb⟩ := Working.setDown_keeps hr (reached.placing? r.tick levels)
        exact setWorking_pool h hx (by rw [hb, hw]; rfl)
    · exact h
  · exact h

/-- The block of a grant goes from the way to the engine. -/
theorem blockAnswer_pool (h : PoolLaw s) : PoolLaw (blockAnswer e s) := by
  unfold blockAnswer
  split
  · rename_i a rest w ha hw
    have hlaw := h.engine e
    rw [hw] at hlaw
    have answers (b : Nat) := s.wires.blockAnswers.total_set e rest (fun as => (blocksGranted as).count b)
    split
    · exact h
    · rename_i p _
      split
      · dsimp only
        split
        · rename_i blk hblk
          have hgrown : EngineLaw (.working { w with blocks := w.blocks ++ [blk] }) := by
            refine ⟨hlaw.1, ?_⟩
            have := hlaw.2
            simp only [List.length_append, List.length_singleton]
            omega
          obtain ⟨hx, hb⟩ := Working.setDown_keeps hgrown p
          refine h.moved (fun b => ?_) (fun i c hc => h.capture (i := i) ?_) fun g => ?_
          · have hans := answers b
            have heng := s.engines.total_set e (.working (w.granted p blk).1) (fun x => x.blocks.count b)
            rw [ha, blocksGranted, List.filterMap_cons, hblk] at hans
            simp only [Working.granted, hw, EngineState.blocks_working, hb, List.count_append] at heng
            simp only [List.count_cons, blocksGranted, List.count_nil] at hans heng
            unfold State.setWorking
            dsimp only
            split
            all_goals
              simp only [State.blockCount, State.askBlock, State.dropBlockAnswer, State.modWires_pool, State.modWires_table, State.modWires_engines,
                State.modWires_wires, State.setEngine_pool, State.setEngine_table, State.setEngine_engines, State.setEngine_wires, ha, List.tail_cons,
                blocksGranted, Working.granted]
              omega
          · unfold State.setWorking at hc
            dsimp only at hc
            split at hc <;> exact hc
          · unfold State.setWorking
            dsimp only
            split <;> exact EngineLaw.get_set h.engine hx g
        · rename_i hnone
          refine h.moved (fun b => ?_) (fun i c hc => h.capture (i := i) hc) fun g => EngineLaw.get_set (x := .working (w.refused p)) h.engine hlaw g
          have hans := answers b
          have heng := s.engines.total_set e (.working (w.refused p)) (fun x => x.blocks.count b)
          rw [ha, blocksGranted, List.filterMap_cons, hnone] at hans
          rw [hw] at heng
          simp only [State.blockCount, State.engineFault, State.dropBlockAnswer, State.modWires_pool, State.modWires_table, State.modWires_engines,
            State.modWires_wires, State.setEngine_pool, State.setEngine_table, State.setEngine_engines, State.setEngine_wires, ha, List.tail_cons]
          simp only [EngineState.blocks_working, Working.refused, Working.cutAt, blocksGranted] at heng hans ⊢
          omega
      · exact h
  · exact h

theorem extractionEnd_pool (h : PoolLaw s) : PoolLaw (extractionEnd e s) := by
  unfold extractionEnd
  split
  · rename_i w hw
    have hlaw := h.engine e
    rw [hw] at hlaw
    split
    · set kept : EngineState := .ending { w with blocks := w.blocks.take w.keptBlocks } with hkept
      have hk : w.keptBlocks ≤ w.blocks.length := hlaw.2
      obtain ⟨_, hret⟩ := returnFromEngine_only (s.setEngine e kept) e (w.blocks.drop w.keptBlocks)
      have htotal := returnFromEngine_total e (w.blocks.drop w.keptBlocks) (s.setEngine e kept)
      refine h.moved (fun b => ?_) (fun i c hc => h.capture (i := i) (by rw [hret] at hc; exact hc)) fun g => ?_
      · have heng := s.engines.total_set e kept (fun x => x.blocks.count b)
        have hsplit := congrArg (List.count b) (List.take_append_drop w.keptBlocks w.blocks)
        have hb := htotal b
        rw [List.count_append] at hsplit
        rw [hret] at hb ⊢
        rw [hw, hkept] at heng
        simp only [EngineState.blocks_ending, EngineState.blocks_working] at heng
        simp only [State.blockCount, State.setEngine_pool, State.setEngine_table, State.setEngine_engines, State.setEngine_wires, hkept] at hb ⊢
        omega
      · rw [hret]
        have hkept : EngineLaw kept := ⟨hlaw.1, by rw [List.length_take, Nat.min_eq_left hk]; rfl⟩
        exact EngineLaw.get_set h.engine hkept g
    · exact h
  · exact h

theorem takeEnd_pool (h : PoolLaw s) : PoolLaw (takeEnd e s) := by
  unfold takeEnd
  split
  · rename_i w hw
    have hlaw := h.engine e
    rw [hw] at hlaw
    have idle (b : Nat) : (s.engines.set e .idle).total (fun x => x.blocks.count b) + w.blocks.count b =
        s.engines.total (fun x => x.blocks.count b) := by
      have heng := s.engines.total_set e .idle (fun x => x.blocks.count b)
      rw [hw] at heng
      simpa [EngineState.blocks_idle, EngineState.blocks_ending] using heng
    split
    · rename_i c hc
      obtain ⟨hslot, hp, -⟩ := extractsUnder_eq_some hc
      have hempty := ((h.capture hslot).before (by rw [hp]; rfl)).2
      refine h.moved (fun b => ?_) (fun k d hd => ?_) (EngineLaw.get_set h.engine trivial)
      · have hcount := SlotTable.count_set (t := s.table) (v := s.table.put w.slot (some (c.withResult w).becomeReady)) rfl b
        rw [SlotTable.blocksOf_eq hslot] at hcount
        simp only [Option.map_some, Option.getD_some, hempty, List.count_nil, Capture.becomeReady, Capture.withResult] at hcount
        have hidle := idle b
        simp only [State.blockCount, State.tellReadouts, State.modWires_pool, State.modWires_table, State.modWires_engines, State.modWires_wires,
          State.setEngine_pool, State.setEngine_table, State.setEngine_engines, State.setEngine_wires, State.modTable_pool, State.modTable_table,
          State.modTable_engines, State.modTable_wires, Capture.becomeReady, Capture.withResult]
        omega
      · have hd : (s.table.slots.set w.slot (some (c.withResult w).becomeReady))[k] = some d := hd
        rw [SlotTable.set_slots] at hd
        split at hd
        · obtain rfl := Option.some.inj hd
          refine ⟨fun hfin => ?_, fun _ => hlaw⟩
          rw [Capture.becomeReady_finished] at hfin
          contradiction
        · exact h.capture hd
    · have hreturn := returnFromTable_flatten w.blocks (s.setEngine e .idle)
      obtain ⟨_, hret⟩ := returnFromTable_only (s.setEngine e .idle) w.blocks
      rw [hret] at hreturn ⊢
      refine h.moved (fun b => ?_) (fun k d hd => h.capture (i := k) hd) (EngineLaw.get_set h.engine trivial)
      have hidle := idle b
      have hb := hreturn b
      simp only [State.blockCount, State.setEngine_pool, State.setEngine_table, State.setEngine_engines, State.setEngine_wires] at hb ⊢
      omega
  · exact h

theorem EngineState.droppable_blocks {x : EngineState} {i : Fin 8} {n : Nat} {bs : List Nat} (h : x.droppable i n = some bs) : bs = x.blocks := by
  unfold EngineState.droppable at h
  repeat' split at h
  all_goals first
    | contradiction
    | exact (Option.some.inj h).symm

theorem engineDrop_pool (h : PoolLaw s) : PoolLaw (engineDrop e s) := by
  unfold engineDrop
  split
  · exact h
  · rename_i slot serial rest _
    dsimp only
    split
    · rename_i bs hbs
      obtain rfl := EngineState.droppable_blocks hbs
      set v := (s.modWires fun w => { w with drops := w.drops.set e rest }).setEngine e .idle with hv
      have hreturn := returnFromEngine_total e (s.engines.get e).blocks v
      obtain ⟨_, hret⟩ := returnFromEngine_only v e (s.engines.get e).blocks
      rw [hret] at hreturn ⊢
      refine h.moved (fun b => ?_) (fun k d hd => h.capture (i := k) hd) (EngineLaw.get_set h.engine trivial)
      have heng := s.engines.total_set e .idle (fun x => x.blocks.count b)
      have hb := hreturn b
      simp only [State.blockCount, hv, State.setEngine_pool, State.setEngine_table, State.setEngine_engines, State.setEngine_wires, State.modWires_pool,
        State.modWires_table, State.modWires_engines, State.modWires_wires] at hb ⊢
      simp only [EngineState.blocks_idle, List.count_nil] at heng
      omega
    · exact h

theorem lateGrant_pool (h : PoolLaw s) : PoolLaw (lateGrant e s) := by
  unfold lateGrant
  split
  · exact h
  · rename_i a rest ha
    split
    · exact h
    · have hreturn := returnFromEngine_total e a.block.toList (s.dropBlockAnswer e)
      obtain ⟨_, hret⟩ := returnFromEngine_only (s.dropBlockAnswer e) e a.block.toList
      rw [hret] at hreturn ⊢
      refine h.moved (fun b => ?_) (fun k d hd => h.capture (i := k) hd) h.engine
      have hans := s.wires.blockAnswers.total_set e rest (fun as => (blocksGranted as).count b)
      have hb := hreturn b
      have hhead : (blocksGranted (a :: rest)).count b = a.block.toList.count b + (blocksGranted rest).count b := by
        unfold blocksGranted
        cases hblk : a.block <;> simp [hblk, List.count_cons]
        omega
      rw [ha, hhead] at hans
      simp only [State.blockCount, State.dropBlockAnswer, State.modWires_pool, State.modWires_table, State.modWires_engines, State.modWires_wires, ha,
        List.tail_cons] at hb ⊢
      omega

theorem blockRequest_pool (pick : Nat) (h : PoolLaw s) : PoolLaw (blockRequest e pick s) := by
  unfold blockRequest
  split
  · exact h
  · rename_i q rest _
    refine h.moved (fun b => ?_) (fun k d hd => h.capture (i := k) hd) h.engine
    have hans := s.wires.blockAnswers.total_set e (s.wires.blockAnswers.get e ++ [(poolAnswer s.pool q pick).2]) (fun as => (blocksGranted as).count b)
    simp only [blocksGranted, List.filterMap_append, List.count_append] at hans
    have granted : (poolAnswer s.pool q pick).1.count b + ([(poolAnswer s.pool q pick).2].filterMap (·.block)).count b = s.pool.count b := by
      unfold poolAnswer
      split
      · simp
      · rename_i hfree
        rw [List.isEmpty_iff] at hfree
        have hk : pick % s.pool.length < s.pool.length := Nat.mod_lt _ (List.length_pos_of_ne_nil hfree)
        have hperm := (List.getElem_cons_eraseIdx_perm hk).count_eq b
        dsimp only
        rw [List.getElem?_eq_getElem hk]
        simp only [List.filterMap_cons, List.filterMap_nil, List.count_cons, List.count_nil] at hperm ⊢
        omega
    simp only [State.blockCount, State.modWires_pool, State.modWires_table, State.modWires_engines, State.modWires_wires, State.setPool_pool,
      State.setPool_table, State.setPool_engines, State.setPool_wires, blocksGranted]
    omega

theorem poolReturn_pool (g : BlockGiver) (h : PoolLaw s) : PoolLaw (poolReturn g s) := by
  unfold poolReturn
  split
  · unfold poolReturnTable
    split
    · exact h
    · rename_i bs rest hr
      refine h.moved (fun b => ?_) (fun k d hd => h.capture (i := k) hd) h.engine
      simp only [State.blockCount, State.modWires_pool, State.modWires_table, State.modWires_engines, State.modWires_wires, State.setPool_pool,
        State.setPool_table, State.setPool_engines, State.setPool_wires, List.count_append, hr, List.flatten_cons]
      omega
  · rename_i e
    unfold poolReturnEngine
    split
    · exact h
    · rename_i bs rest hr
      refine h.moved (fun b => ?_) (fun k d hd => h.capture (i := k) hd) h.engine
      have hret := s.wires.engineReturns.total_set e rest (fun rs => rs.flatten.count b)
      rw [hr] at hret
      simp only [List.flatten_cons, List.count_append] at hret
      simp only [State.blockCount, State.modWires_pool, State.modWires_table, State.modWires_engines, State.modWires_wires, State.setPool_pool,
        State.setPool_table, State.setPool_engines, State.setPool_wires, List.count_append]
      omega

theorem State.idleEngine_idle (h : s.idleEngine = some e) : s.engines.get e = .idle := by
  unfold State.idleEngine at h
  repeat' split at h
  all_goals first
    | contradiction
    | obtain rfl := Option.some.inj h
      assumption

theorem engineTakeSlot_pool (hs : SlotLaw s.table) (h : PoolLaw s) : PoolLaw (engineTakeSlot s) := by
  unfold engineTakeSlot
  split
  · rename_i i rest e hq hidle
    obtain ⟨c, hc, hp⟩ := (hs.queued i).1 (by rw [hq]; exact List.mem_cons_self)
    have hc : s.slot i = some c := hc
    have hempty := (h.capture hc).before (by rw [hp]; rfl)
    unfold giveHead
    rw [hc]
    have taken : PoolLaw (s.modTable fun t => { t.put i (some { c with phase := .extracting }) with queue := rest }) := by
      refine h.slotSet (i := i) (fun d hd => ?_) (by rw [SlotTable.blocksOf_eq hc]; rfl) rfl rfl rfl rfl rfl rfl
      obtain rfl := Option.some.inj hd
      exact ⟨fun _ => hempty, fun hfin => absurd hfin (by simp [Phase.finished])⟩
    refine taken.engineSet (e := e) (x := .reading (c.reading i)) trivial ?_ rfl rfl rfl rfl rfl rfl
    show [] = (s.engines.get e).blocks
    rw [State.idleEngine_idle hidle]
    rfl
  · exact h

end

/-! ## The rows -/

theorem exec_keeps_pool {i : Instr} {s t : State} (hs : SlotLaw s.table ∧ PoolLaw s) (h : exec i s = .next t) : PoolLaw t := by
  by_cases hr : ∃ p ∈ [Place.table, .engines, .pool, .blockAnswers, .tableReturns, .engineReturns], p ∈ reach i
  swap
  · have same (p : Place) (hp : p ∈ [Place.table, .engines, .pool, .blockAnswers, .tableReturns, .engineReturns]) : p.same s t :=
      exec_same h fun hi => hr ⟨p, hp, hi⟩
    exact hs.2.congr (same .table (by simp)) (same .pool (by simp)) (same .engines (by simp)) (same .blockAnswers (by simp))
      (same .tableReturns (by simp)) (same .engineReturns (by simp))
  revert h
  cases i
  case trigger => exact commandRow_keeps (P := PoolLaw) (fun _ h => h) triggerOwner_pool hs.2
  case abort => exact commandRow_keeps (P := PoolLaw) (fun _ h => h) abortOwner_pool hs.2
  case fetch => exact commandRow_keeps (P := PoolLaw) (fun _ h => h) fetchOwner_pool hs.2
  case release => exact commandRow_keeps (P := PoolLaw) (fun _ h => h) releaseOwner_pool hs.2
  case test => exact commandRow_keeps (P := PoolLaw) (fun _ h => h) testOwner_pool hs.2
  case triggerUnitTakeSample => exact unlessHeld_keeps (P := PoolLaw) trigUnitTakeSample_pool hs.2
  case alertCountdownExpiry =>
    refine unlessHeld_keeps (P := PoolLaw) (fun hu => ?_) hs.2
    split
    · exact trigUnitTakeSample_pool hu
    · exact hu
  case slotTableTakeSample => exact unlessHeld_keeps (P := PoolLaw) tableTakeSample_pool hs.2
  case slotTableTakeStop => exact unlessHeld_keeps (P := PoolLaw) tableTakeStop_pool hs.2
  case slotTableOffer =>
    refine unlessHeld_keeps (P := PoolLaw) (fun hu => ?_) hs.2
    unfold tableTakeOffer
    split
    · exact hu
    · rename_i o rest _
      have offered := takeOffer_pool (s := s.modWires fun w => { w with lineOffers := rest }) o hu
      exact offered
  case slotTableTakeSessionEnd => exact unlessHeld_keeps (P := PoolLaw) tableTakeSessionEnd_pool hs.2
  case engineTakeSlot => exact unlessHeld_keeps (P := PoolLaw) (engineTakeSlot_pool hs.1) hs.2
  case extractionBegin => exact unlessHeld_keeps (P := PoolLaw) extractionBegin_pool hs.2
  case extractionRow => exact unlessHeld_keeps (P := PoolLaw) extractionRow_pool hs.2
  case blockRequest => exact unlessHeld_keeps (P := PoolLaw) (blockRequest_pool _) hs.2
  case blockAnswer => exact unlessHeld_keeps (P := PoolLaw) blockAnswer_pool hs.2
  case extractionEnd => exact unlessHeld_keeps (P := PoolLaw) extractionEnd_pool hs.2
  case extractionEndTaken => exact unlessHeld_keeps (P := PoolLaw) takeEnd_pool hs.2
  case engineDrop => exact unlessHeld_keeps (P := PoolLaw) engineDrop_pool hs.2
  case lateEngineAnswer e a =>
    refine unlessHeld_keeps (P := PoolLaw) (fun hu => ?_) hs.2
    cases a
    · exact lateGrant_pool hu
    · exact hu
  case poolReturn => exact unlessHeld_keeps (P := PoolLaw) (poolReturn_pool _) hs.2
  case resetCarriedOut =>
    exact unlessHeld_keeps (P := PoolLaw) (resetCarriedOut_keeps (P := PoolLaw) fun keep _ => poolLaw_of_fresh rfl rfl rfl rfl) hs.2
  case hardReset => exact fun h => exec_hardReset h ▸ poolLaw_of_fresh rfl rfl rfl rfl
  all_goals simp [reach] at hr

/-- Settles O10. -/
theorem poolLawIsKept : Obligations.PoolLawIsKept := by
  unfold Obligations.PoolLawIsKept
  refine step_keeps (P := fun s => SlotLaw s.table ∧ PoolLaw s) (ps := [.table, .engines, .pool, .blockAnswers, .tableReturns, .engineReturns])
    (fun {s t} hsame hs => ⟨State.slotLaw_congr hs.1 (hsame .table (by simp)), ?_⟩) (by simp) (by simp)
    (fun i _ {s t} hs h => ⟨exec_keeps_table hs.1 h, exec_keeps_pool hs h⟩)
  exact hs.2.congr (hsame .table (by simp)) (hsame .pool (by simp)) (hsame .engines (by simp)) (hsame .blockAnswers (by simp))
    (hsame .tableReturns (by simp)) (hsame .engineReturns (by simp))

end Sys2Proof.Machine
end

section
/-! SUPPORT. The command handler and a session's opening (O18, O19, O20): what the row of a host command comes to at a handler that is free, whatever
the case of R168. -/

-- One theorem at a time: the proofs of so long a text would each hold a thread.
set_option Elab.async false

namespace Sys2Proof.Machine

/-! ## The cases of R168, one link -/

section
variable {k : LinkState} {resetting : Bool} {f : GoodFrame} {c : Command}

theorem LinkState.noticed_overrun (k : LinkState) : (k.noticed fun n => { n with overrun := true }) =
    { k with notices := { k.notices with overrun := k.notices.overrun || k.session.isSome } } := by
  unfold LinkState.noticed
  cases hs : k.session.isSome
  · simp
  · simp

theorem cache_filter_eq_none {o : Option Reply} {seq : Byte} (h : o.map (·.seq) ≠ some seq) : o.filter (fun r => r.seq == seq) = none := by
  cases o with
  | none => rfl
  | some r => exact Option.filter_eq_none_iff.2 (by simpa using h)

/-- R168 case 1. -/
theorem LinkState.taken_full (h : 4 ≤ k.replies.length) : k.taken resetting f =
    { k with
      counts := { k.counts with overruns := wrap32 (k.counts.overruns + 1) }
      notices := { k.notices with overrun := k.notices.overrun || k.session.isSome } } := by
  rw [LinkState.taken, if_pos (show Config.replyPlaces ≤ _ from h), LinkState.noticed_overrun]

/-- R168 case 2. -/
theorem LinkState.taken_cached {r : Reply} (hroom : k.replies.length < 4) (hr : k.cache = some r) (hseq : r.seq = f.seq) : k.taken resetting f =
    { k with
      counts := { k.counts with replays := wrap32 (k.counts.replays + 1) }
      replies := k.replies ++ [{ r with after := .nothing }] } := by
  have hfull : ¬ Config.replyPlaces ≤ k.replies.length := Nat.not_le.2 hroom
  have hfilter : k.cache.filter (fun x => x.seq == f.seq) = some r := by simp [hr, hseq, Option.filter]
  rw [LinkState.taken, if_neg hfull, hfilter]

variable (hroom : k.replies.length < 4) (hcache : k.cache.map (·.seq) ≠ some f.seq)
include hroom hcache

/-- R168 case 3. -/
theorem LinkState.taken_resetting : k.taken true f = k.queued (f.refusal .resetting) := by
  rw [LinkState.taken_unanswered (Nat.not_le.2 hroom) (cache_filter_eq_none hcache), if_pos rfl]

/-- R168 case 4. -/
theorem LinkState.taken_bye (hopen : k.session.isSome = true) (hbye : k.byeMark = true) : k.taken false f = k := by
  rw [LinkState.taken_unanswered (Nat.not_le.2 hroom) (cache_filter_eq_none hcache), if_neg (by simp), if_pos (by simp [hopen, hbye])]

/-- R168 case 5. -/
theorem LinkState.taken_closed (hclosed : k.session = none) (hkind : f.kind ≠ 0x01#8) :
    k.taken false f = { k with replies := k.replies ++ [f.refusal .noSession] } := by
  rw [LinkState.taken_unanswered (Nat.not_le.2 hroom) (cache_filter_eq_none hcache), if_neg (by simp), if_neg (by simp [hclosed]),
    if_pos (by simpa [hclosed] using hkind), LinkState.queued, hclosed]
  rfl

/-- None of R168's cases 1 to 5: the session is OPEN without its BYE mark, or CLOSED and the frame is a HELLO's. -/
theorem LinkState.taken_judged (h : k.session.isSome = true ∧ k.byeMark = false ∨ k.session = none ∧ f.kind = 0x01#8) :
    k.taken false f = match f.reading with
      | .unknownKind => k.queued (f.refusal .unknownKind)
      | .wrongLength => k.queued (f.refusal .badLength)
      | .command c => { k with inHand := some { seq := f.seq, command := c } } := by
  rw [LinkState.taken_unanswered (Nat.not_le.2 hroom) (cache_filter_eq_none hcache), if_neg (by simp)]
  obtain ⟨hopen, hbye⟩ | ⟨hclosed, hkind⟩ := h
  · rw [if_neg (by simp [hbye]), if_neg (by simp [Option.isSome_iff_ne_none.1 hopen])] <;> rfl
  · rw [if_neg (by simp [hclosed]), if_neg (by simp [hkind])] <;> rfl

end

/-! ## The row of a host command at a free handler -/

section
variable {s t : State} {l : Link} {seq : Byte} {c : Command} {own : Owner}

/-- Every host command has the row of its link, SEQ and command. -/
theorem exec_of_hostCommand {i : Instr} (h : hostCommand i = some (l, seq, c)) : ∃ own, ∀ s, exec i s = unlessHeld (commandRow l seq c own) s := by
  cases i <;> simp only [hostCommand, Option.some.injEq, Prod.mk.injEq, reduceCtorEq] at h
  all_goals
    obtain ⟨rfl, rfl, rfl⟩ := h
    exact ⟨_, fun _ => rfl⟩

theorem handlerFree_iff : handlerFree s l = true ↔ s.resetPin = false ∧ (s.links.get l).inHand = none ∧ (s.links.get l).waiting = [] := by
  simp only [handlerFree, Bool.and_eq_true, Bool.not_eq_true', Option.isNone_iff_eq_none, List.isEmpty_iff, and_assoc]

theorem handlerTakes_iff : handlerTakes s l seq = true ↔
    handlerFree s l = true ∧ s.resetPending = false ∧ (s.links.get l).replies.length < 4 ∧ (s.links.get l).cache.map (·.seq) ≠ some seq := by
  simp only [handlerTakes, Bool.and_eq_true, Bool.not_eq_true', decide_eq_true_eq, bne_iff_ne, and_assoc]

theorem LinkState.taken_waiting (k : LinkState) (resetting : Bool) (f : GoodFrame) : (k.taken resetting f).waiting = k.waiting := by
  unfold LinkState.taken LinkState.noticed LinkState.queued
  repeat' split
  all_goals rfl

/-- A link that nothing waits at and has nothing in hand receives a frame. -/
theorem LinkState.received_free {k : LinkState} (hin : k.inHand = none) (hw : k.waiting = []) (resetting : Bool) (f : GoodFrame) :
    k.received resetting f = k.counted.taken resetting f := by
  have hfree : ¬ k.counted.inHand.isSome = true := by simp [LinkState.counted, hin]
  have hwait : (k.counted.taken resetting f).waiting = [] := by rw [LinkState.taken_waiting]; exact hw
  rw [LinkState.received, hw, List.nil_append, LinkState.pumped, if_neg hfree, LinkState.pumped]
  rw [← hwait]

/-- The row of a command that the handler does not execute: the frame's arrival is all (R168 cases 1 to 5). -/
theorem commandRow_not_executed (hfree : handlerFree s l = true) {k : LinkState}
    (htaken : (s.links.get l).counted.taken s.resetPending { seq := seq, kind := c.kind, reading := .command c } = k) (hk : k.inHand = none) :
    commandRow l seq c own s = s.modLink l fun _ => k := by
  obtain ⟨-, hin, hw⟩ := handlerFree_iff.1 hfree
  have received : goodFrame l { seq := seq, kind := c.kind, reading := .command c } s = s.modLink l fun _ => k := by
    rw [goodFrame_eq]
    exact State.modLink_congr (by rw [LinkState.received_free hin hw, htaken])
  rw [commandRow, if_neg (by simp [hin]), received, ownerTakes, if_neg (by simp [hk])]

theorem unlessHeld_not_executed (hfree : handlerFree s l = true) {f : LinkState → LinkState}
    (htaken : (s.links.get l).counted.taken s.resetPending { seq := seq, kind := c.kind, reading := .command c } = f (s.links.get l))
    (hk : (f (s.links.get l)).inHand = none) : unlessHeld (commandRow l seq c own) s = .next (s.modLink l f) := by
  rw [unlessHeld_free s (handlerFree_iff.1 hfree).1, commandRow_not_executed hfree htaken hk]
  rfl

/-- The row of a command that the handler executes: what its owner makes of it, answered. -/
theorem commandRow_executed (htakes : handlerTakes s l seq = true)
    (h : (s.links.get l).session.isSome = true ∧ (s.links.get l).byeMark = false ∨ (s.links.get l).session = none ∧ c = .hello) :
    commandRow l seq c own s = match own (s.received l seq c) with
      | none => s.received l seq c
      | some (t, b, a) => finishCommand l seq c.kind b a t := by
  obtain ⟨hfree, hpending, hroom, hcache⟩ := handlerTakes_iff.1 htakes
  obtain ⟨-, hin, hw⟩ := handlerFree_iff.1 hfree
  have received : goodFrame l { seq := seq, kind := c.kind, reading := .command c } s = s.received l seq c := by
    rw [goodFrame_eq, hpending]
    refine State.modLink_congr ?_
    rw [LinkState.received_free hin hw, LinkState.taken_judged (k := (s.links.get l).counted)
      (f := { seq := seq, kind := c.kind, reading := .command c }) hroom hcache]
    · simp [LinkState.counted, hw]
    · obtain h | ⟨hclosed, rfl⟩ := h
      · exact .inl h
      · exact .inr ⟨hclosed, rfl⟩
  have hpend : (s.received l seq c).resetPending = false := hpending
  rw [commandRow, if_neg (by simp [hin]), received, ownerTakes, if_pos (by simp [State.received]), hpend, if_neg (by simp)] <;>
    cases own (s.received l seq c) <;> rfl

/-- A link once its command in hand is answered with nothing waiting. -/
def LinkState.finishedWith (k : LinkState) (r : Reply) : LinkState := LinkState.queued { k with inHand := none } r

theorem unlessHeld_executed (htakes : handlerTakes s l seq = true)
    (h : (s.links.get l).session.isSome = true ∧ (s.links.get l).byeMark = false ∨ (s.links.get l).session = none ∧ c = .hello)
    {b : ReplyBody} {a : AfterReply} (howner : own (s.received l seq c) = some (t, b, a)) (hw : (t.links.get l).waiting = []) :
    unlessHeld (commandRow l seq c own) s =
      .next (t.modLink l fun k => k.finishedWith { seq := seq, kind := c.kind, body := b, after := a }) := by
  have hpin := (handlerFree_iff.1 (handlerTakes_iff.1 htakes).1).1
  rw [unlessHeld_free s hpin, commandRow_executed htakes h, howner]
  dsimp only
  rw [finishCommand_eq]
  refine congrArg _ (State.modLink_congr ?_)
  rw [LinkState.finished, hw]
  show { LinkState.queued _ _ with waiting := [] } = LinkState.finishedWith _ _
  rw [LinkState.finishedWith, ← hw]
  rfl

/-- What a ready handler is: it takes, and its session is OPEN without its BYE mark. -/
theorem handlerReady_takes (h : handlerReady s l seq = true) :
    handlerTakes s l seq = true ∧ (s.links.get l).session.isSome = true ∧ (s.links.get l).byeMark = false := by
  simpa [handlerReady, and_assoc] using h

end

/-- Settles O18: the five cases, one link at a time. -/
theorem framesTheHandlerDoesNotExecute : Obligations.FramesTheHandlerDoesNotExecute := by
  unfold Obligations.FramesTheHandlerDoesNotExecute
  constructor
  · intro l f t
    dsimp only
    simp only [handlerTake_eq]
    refine ⟨fun h => State.modLink_congr (LinkState.taken_full h), fun hroom => ⟨fun r hr hseq => State.modLink_congr (LinkState.taken_cached hroom hr hseq),
      fun hcache => ⟨fun hp => ?_, fun hp hopen hbye => ?_, fun hp hclosed hkind => ?_⟩⟩⟩
    · rw [hp]
      exact State.modLink_congr (LinkState.taken_resetting hroom hcache)
    · rw [hp]
      exact State.modLink_id (LinkState.taken_bye hroom hcache hopen hbye)
    · rw [hp]
      exact State.modLink_congr (LinkState.taken_closed hroom hcache hclosed hkind)
  · intro i l seq c s hi hfree
    obtain ⟨own, hexec⟩ := exec_of_hostCommand hi
    obtain ⟨-, hin, -⟩ := handlerFree_iff.1 hfree
    simp only [hexec]
    refine ⟨fun h => unlessHeld_not_executed hfree (LinkState.taken_full h) hin, fun hroom =>
      ⟨fun r hr hseq => unlessHeld_not_executed hfree (LinkState.taken_cached hroom hr hseq) hin,
      fun hcache => ⟨fun hp => ?_, fun hp hopen hbye => ?_, fun hp hclosed hkind => ?_⟩⟩⟩
    · exact unlessHeld_not_executed hfree (by rw [hp]; exact LinkState.taken_resetting hroom hcache) hin
    · exact unlessHeld_not_executed hfree (by rw [hp]; exact LinkState.taken_bye hroom hcache hopen hbye) hin
    · have hk : c.kind ≠ 0x01#8 := fun e => hkind (Command.eq_hello_of_kind e)
      exact unlessHeld_not_executed hfree (by rw [hp]; exact LinkState.taken_closed hroom hcache hclosed hk) hin

/-- Settles O20. -/
theorem pingAndByeAnswerTheSession : Obligations.PingAndByeAnswerTheSession := by
  unfold Obligations.PingAndByeAnswerTheSession
  intro l seq n s hready hn
  obtain ⟨htakes, hopen, hbye⟩ := handlerReady_takes hready
  obtain ⟨-, hin, hw⟩ := handlerFree_iff.1 (handlerTakes_iff.1 htakes).1
  have number (c : Command) : (s.received l seq c).sessionNumber l = n := by simp [State.sessionNumber, State.received, hn]
  constructor
  · refine (unlessHeld_executed htakes (.inl ⟨hopen, hbye⟩) (by rw [pingOwner, number]) (by simp [State.received])).trans ?_
    simp [State.modLink, State.received, State.answered, LinkState.finishedWith, LinkState.queued, LinkState.answered, LinkState.counted, hn, hin, hw,
      Command.kind]
  · refine (unlessHeld_executed htakes (.inl ⟨hopen, hbye⟩) (by rw [byeOwner, number]) (by simp [State.received])).trans ?_
    simp [State.modLink, State.received, LinkState.finishedWith, LinkState.queued, LinkState.answered, LinkState.counted, hn, hin, hw, Command.kind]

/-! ## HELLO -/

/-- R173's change of a link, written out: a rate that a discarded REPLY was to bring is taken at once when nothing is on the line (R157). -/
theorem LinkState.endSession_eq (k : LinkState) (n : Nat) (r : SessionEndReason) : k.endSession n r =
    { k with
      session := none
      byeMark := false
      sinceGood := 0
      replies := []
      cache := none
      notices := Notices.empty
      pendingEnd := some (r, n)
      counts := { k.counts with ends := k.counts.ends.bump r }
      inHand := keepHello k.inHand
      rate := if k.onLine then k.rate else (discardedRate k.replies k.rateDue).getD k.rate
      receiver := if k.onLine ∨ discardedRate k.replies k.rateDue = none then k.receiver else .hunt
      rateDue := if k.onLine then discardedRate k.replies k.rateDue else none
      tx := k.tx.atSessionEnd } := by
  have online (x : LinkState) (h : x.tx = k.tx.atSessionEnd) : x.onLine = k.onLine := by
    unfold LinkState.onLine
    rw [h]
    cases k.tx <;> rfl
  rw [LinkState.endSession, LinkState.takeFreeRate, online _ rfl]
  cases k.onLine
  · unfold LinkState.takeDueRate
    dsimp only
    cases discardedRate k.replies k.rateDue <;> rfl
  · rfl

/-- Settles O19. -/
theorem helloOpensASession : Obligations.HelloOpensASession := by
  unfold Obligations.HelloOpensASession
  intro l seq s
  dsimp only
  constructor
  · intro htakes hclosed
    obtain ⟨-, hin, hw⟩ := handlerFree_iff.1 (handlerTakes_iff.1 htakes).1
    have hend : endSession l .rehello (s.received l seq .hello) = s.received l seq .hello :=
      endSession_closed _ (by simpa [State.received] using hclosed)
    refine (unlessHeld_executed htakes (.inr ⟨hclosed, rfl⟩) (by rw [helloOwner, hend]) (by simp [State.received, LinkState.openSession])).trans ?_
    simp [State.modLink, State.received, LinkState.openSession, LinkState.finishedWith, LinkState.queued, LinkState.counted, hin, hw, Command.kind]
  · intro old hready hold
    obtain ⟨htakes, hopen, hbye⟩ := handlerReady_takes hready
    obtain ⟨hfree, hpending, -, -⟩ := handlerTakes_iff.1 htakes
    obtain ⟨-, hin, hw⟩ := handlerFree_iff.1 hfree
    have hdevice : s.device = .normal := by
      by_contra hd
      rw [(State.resetPending_iff s).2 hd] at hpending
      contradiction
    have hend : endSession l .rehello (s.received l seq .hello) =
        ((s.received l seq .hello).modLink l fun k => k.endSession old .rehello).modWires fun w => w.endSession l := by
      have hpump (k : LinkState) (hk : k = ((s.received l seq .hello).links.get l).endSession old .rehello) (resetting : Bool) :
          k.pumped resetting [] = k := by
        subst hk
        rw [LinkState.pumped_inHand (by simp [LinkState.endSession_eq, State.received, keepHello])]
        simp [LinkState.endSession_eq, State.received]
      rw [endSession_open (n := old) .rehello (by simpa [State.received] using hold)]
      have hdev : (s.received l seq .hello).device.atSessionEnd l old ((s.received l seq .hello).links.get l).replies =
          (s.received l seq .hello).device := by simp [State.received, hdevice, ResetCondition.atSessionEnd]
      rw [hdev]
      refine congrArg (State.modWires · _) (State.modLink_congr ?_)
      have hnone : ((s.received l seq .hello).links.get l).waiting = [] := by simp [State.received]
      show LinkState.pumped _ ((s.received l seq .hello).links.get l).waiting _ = _
      rw [hnone]
      exact hpump _ rfl _
    refine (unlessHeld_executed htakes (.inl ⟨hopen, hbye⟩) (by rw [helloOwner, hend])
      (by simp [State.received, LinkState.openSession, LinkState.endSession_eq])).trans ?_
    simp [State.modLink, State.modWires, State.received, LinkState.openSession, LinkState.endSession_eq, LinkState.finishedWith, LinkState.queued,
      LinkState.counted, hin, hw, Command.kind, EndCounts.bump, LinkState.onLine, keepHello]
    rfl

end Sys2Proof.Machine
end

section
/-! SUPPORT. Commands about items and the device (O22, O23, O24), the reports (O25) and the fault log's taking (O27). -/

-- One theorem at a time: the proofs of so long a text would each hold a thread.
set_option Elab.async false

namespace Sys2Proof.Machine

/-! ## The row of a command at a ready handler -/

section
variable {s t : State} {l : Link} {seq : Byte} {c : Command} {own : Owner} {b : ReplyBody} {a : AfterReply}

/-- At a ready handler, an owner that leaves the command's link as it is: its answer is the link's only change. -/
theorem unlessHeld_ready (hready : handlerReady s l seq = true) (howner : own (s.received l seq c) = some (t, b, a))
    (hlink : t.links.get l = (s.received l seq c).links.get l) :
    unlessHeld (commandRow l seq c own) s =
      .next { t with links := t.links.set l ((s.links.get l).answered { seq := seq, kind := c.kind, body := b, after := a }) } := by
  obtain ⟨htakes, hopen, hbye⟩ := handlerReady_takes hready
  obtain ⟨-, hin, hw⟩ := handlerFree_iff.1 (handlerTakes_iff.1 htakes).1
  rw [unlessHeld_executed htakes (.inl ⟨hopen, hbye⟩) howner (by rw [hlink]; simp [State.received])]
  simp only [State.modLink, hlink]
  simp [State.received, LinkState.finishedWith, LinkState.queued, LinkState.answered, LinkState.counted, hopen, hin, hw]

/-- The same with an owner that changes no link. -/
theorem unlessHeld_ready_answers (hready : handlerReady s l seq = true)
    (howner : own (s.received l seq c) = some ({ t with links := (s.received l seq c).links }, b, a)) (hlinks : t.links = s.links) :
    unlessHeld (commandRow l seq c own) s = .next (t.answered l { seq := seq, kind := c.kind, body := b, after := a }) := by
  rw [unlessHeld_ready hready howner rfl, State.answered, hlinks]
  simp [State.received]

end

/-! ## SET -/

section
variable {s : State} {l : Link} {seq : Byte} {c : Command} {id : BitVec 16} {v : List Byte} {x : ItemId} {y : Items}

theorem setOwner_refused {code : Result} (h : s.checkSet l id v = .error code) : setOwner l id v s = some (s, .refused code, .nothing) := by
  rw [setOwner, h]

theorem setOwner_stored (h : s.checkSet l id v = .ok (x, y)) :
    setOwner l id v s = some ((afterSet l x (s.setItems y)).1, .item id (y.value x), (afterSet l x (s.setItems y)).2) := by
  rw [setOwner, h]

/-- The fifth and sixth check of R155 do not see the frame's arrival. -/
theorem State.setRefusal_received (s : State) (l : Link) (seq : Byte) (c : Command) (x : ItemId) :
    (s.received l seq c).setRefusal l x = s.setRefusal l x := by
  cases x
  case linkRate m =>
    by_cases h : m = l
    · simp [State.setRefusal, h]
    · simp [State.setRefusal, h, State.sessionOpen, State.received, PerLink.get_set]
  all_goals rfl

theorem State.checkSet_received (s : State) (l : Link) (seq : Byte) (c : Command) (id : BitVec 16) (v : List Byte) :
    (s.received l seq c).checkSet l id v = s.checkSet l id v := by
  simp only [State.checkSet, State.setRefusal_received]
  rfl

/-- A refused SET changes nothing but the link that carried it. -/
theorem exec_set_refused {code : Result} (hready : handlerReady s l seq = true) (h : s.checkSet l id v = .error code) :
    exec (.set l seq id v) s = .next (s.answered l { seq := seq, kind := 0x11#8, body := .refused code, after := .nothing }) :=
  unlessHeld_ready_answers hready (setOwner_refused (by rw [State.checkSet_received, h])) rfl

theorem State.checkSet_unknown (h : ItemId.ofId id = none) : s.checkSet l id v = .error .unknownItem := by
  rw [State.checkSet, h]

theorem State.checkSet_readOnly (h : ItemId.ofId id = some x) (hw : x.writable = false) : s.checkSet l id v = .error .readOnly := by
  simp [State.checkSet, h, hw]

theorem State.checkSet_badLength (h : ItemId.ofId id = some x) (hw : x.writable = true) (hv : v.length ≠ x.size) :
    s.checkSet l id v = .error .badLength := by
  simp [State.checkSet, h, hw, hv]

theorem State.checkSet_badValue (h : ItemId.ofId id = some x) (hw : x.writable = true) (hv : v.length = x.size)
    (hx : s.items.write x v = none) : s.checkSet l id v = .error .badValue := by
  simp [State.checkSet, h, hw, hv, hx]

theorem State.checkSet_late (h : ItemId.ofId id = some x) (hx : s.items.write x v = some y) {code : Result} (hr : s.setRefusal l x = some code) :
    s.checkSet l id v = .error code := by
  have ht := Items.write_iff.1 hx
  simp [State.checkSet, h, ht.writable, ht.length, hx, hr]

theorem State.checkSet_ok (h : ItemId.ofId id = some x) (hx : s.items.write x v = some y) (hr : s.setRefusal l x = none) :
    s.checkSet l id v = .ok (x, y) := by
  have ht := Items.write_iff.1 hx
  simp [State.checkSet, h, ht.writable, ht.length, hx, hr]

/-- The row of an accepted SET: what `afterSet` makes of the stored value, answered with it. -/
theorem exec_set_stored {t : State} {a : AfterReply} (hready : handlerReady s l seq = true) (h : ItemId.ofId id = some x)
    (hx : s.items.write x v = some y) (hr : s.setRefusal l x = none)
    (hafter : afterSet l x ((s.received l seq (.set id v)).setItems y) = (t, a))
    (hlink : t.links.get l = (s.received l seq (.set id v)).links.get l) :
    exec (.set l seq id v) s =
      .next { t with links := t.links.set l ((s.links.get l).answered { seq := seq, kind := 0x11#8, body := .item id v, after := a }) } := by
  have hcheck : (s.received l seq (.set id v)).checkSet l id v = .ok (x, y) := by rw [State.checkSet_received, State.checkSet_ok h hx hr]
  have howner := setOwner_stored hcheck
  rw [hafter, (Items.write_iff.1 hx).value] at howner
  exact unlessHeld_ready hready howner hlink

/-- Settles O22. -/
theorem setStoresOrRefuses : Obligations.SetStoresOrRefuses := by
  unfold Obligations.SetStoresOrRefuses
  intro l seq id v s hready
  dsimp only
  refine ⟨fun h => exec_set_refused hready (State.checkSet_unknown h), fun x h => ⟨fun hw => exec_set_refused hready (State.checkSet_readOnly h hw),
    fun hw hv => exec_set_refused hready (State.checkSet_badLength h hw hv), fun hw hv => ⟨fun hx => exec_set_refused hready
    (State.checkSet_badValue h hw hv hx), fun y hx => ⟨fun e hrun => ?_, fun m e hm hopen => ?_, fun hrate htime hrun => ?_⟩⟩⟩⟩
  · exact exec_set_refused hready (State.checkSet_late h hx (by rw [e, State.setRefusal, if_pos hrun]))
  · exact exec_set_refused hready (State.checkSet_late h hx (by rw [e, State.setRefusal, if_pos ⟨hm, hopen⟩]))
  · have hr : s.setRefusal l x = none := by
      cases x
      case tickPeriod => rw [State.setRefusal, if_neg (by simp [hrun rfl])]
      case linkRate m => exact absurd rfl (hrate m)
      all_goals rfl
    have hafter (s : State) : afterSet l x s = (s, .nothing) := by
      cases x
      case sessionTimeout => exact absurd rfl htime
      case linkRate m => exact absurd rfl (hrate m)
      all_goals rfl
    rw [exec_set_stored hready h hx hr (hafter _) rfl]
    simp [State.received, State.answered]

/-! ## SET of a link's rate and of the session timeout -/

/-- A rate that waits is taken at once when nothing is on the line, and else stays waiting (R157). -/
theorem LinkState.takeFreeRate_due (k : LinkState) (r : Rate) : { k with rateDue := some r }.takeFreeRate =
    if k.onLine then { k with rateDue := some r } else { k with rate := r, receiver := .hunt, rateDue := none } := rfl

/-- An accepted SET of the other link's rate: that link takes it, and no other part of the state sees it. -/
theorem exec_set_otherRate {m : Link} {k : LinkState} (hready : handlerReady s l seq = true) (h : ItemId.ofId id = some (.linkRate m))
    (hx : s.items.write (.linkRate m) v = some y) (hm : m ≠ l) (hclosed : (s.links.get m).session = none)
    (hk : { s.links.get m with rateDue := some (y.rateOf m) }.takeFreeRate = k) :
    exec (.set l seq id v) s = .next ((({ s with items := y } : State).modLink m fun _ => k).replied l seq 0x11#8 (.item id v)) := by
  have hr : s.setRefusal l (.linkRate m) = none := by
    rw [State.setRefusal, if_neg (by simp [State.sessionOpen, hclosed])]
  have hget : (s.received l seq (.set id v)).links.get m = s.links.get m := by simp [State.received, PerLink.get_set, hm]
  rw [exec_set_stored hready h hx hr (by rw [afterSet, if_neg hm]) (by simp [PerLink.get_set, Ne.symm hm])]
  simp only [State.modLink, State.setItems, hget, hk]
  simp only [State.received, State.modLink, State.replied, State.answered]
  refine congrArg _ ?_
  cases l <;> cases m
  case A.A => contradiction
  case B.B => contradiction
  all_goals rfl

/-- A link's session end does not see what the other link is. -/
theorem endSession_modLink {m : Link} (hm : m ≠ l) (r : SessionEndReason) (f : LinkState → LinkState) (s : State) :
    endSession m r (s.modLink l f) = (endSession m r s).modLink l f := by
  have hget : (s.modLink l f).links.get m = s.links.get m := by simp [PerLink.get_set, hm]
  cases hs : (s.links.get m).session with
  | none => rw [endSession_closed r hs, endSession_closed r (by rw [hget, hs])]
  | some n =>
    rw [endSession_open r hs, endSession_open (s := s.modLink l f) r (by rw [hget, hs]), hget]
    cases l <;> cases m
    case A.A => contradiction
    case B.B => contradiction
    all_goals rfl

/-- An accepted SET of SESSION_TIMEOUT: the other link's session is ended if it is overdue. -/
theorem exec_set_sessionTimeout (hready : handlerReady s l seq = true) (h : ItemId.ofId id = some .sessionTimeout)
    (hx : s.items.write .sessionTimeout v = some y) :
    exec (.set l seq id v) s = .next ((endIfOverdue (otherLink l) { s with items := y }).replied l seq 0x11#8 (.item id v)) := by
  have hm : otherLink l ≠ l := by simp
  have hafter : endIfOverdue (otherLink l) ((s.received l seq (.set id v)).setItems y) =
      (endIfOverdue (otherLink l) { s with items := y }).modLink l fun _ => (s.received l seq (.set id v)).links.get l := by
    have hsame : (s.received l seq (.set id v)).setItems y =
        ({ s with items := y } : State).modLink l fun _ => (s.received l seq (.set id v)).links.get l := by
      simp [State.received, State.modLink, State.setItems]
    rw [hsame, endIfOverdue, endIfOverdue, endSession_modLink hm, State.modLink_links, PerLink.get_set, if_neg hm]
    exact (apply_ite (fun t => State.modLink t l _) _ _ _).symm
  have hkeep : (endIfOverdue (otherLink l) { s with items := y }).links.get l = s.links.get l := by
    unfold endIfOverdue
    split
    · exact endSession_other _ hm.symm
    · rfl
  rw [exec_set_stored hready h hx rfl (by rw [afterSet, hafter]) (by simp)]
  simp [State.replied, State.answered, hkeep]

/-- Settles O23. -/
theorem setOfLinkRateAndSessionTimeout : Obligations.SetOfLinkRateAndSessionTimeout := by
  unfold Obligations.SetOfLinkRateAndSessionTimeout
  intro l seq id v y s hready
  dsimp only
  refine ⟨fun m h hx => ⟨fun e => ?_, fun hm hclosed => ⟨fun honline => ?_, fun honline => ?_⟩⟩, fun h hx => ⟨fun hno => ?_, fun hopen hne hle => ?_⟩⟩
  · subst e
    have hr : s.setRefusal m (.linkRate m) = none := by rw [State.setRefusal, if_neg (by simp)]
    rw [exec_set_stored (t := (s.received m seq (.set id v)).setItems y) hready h hx hr (by rw [afterSet, if_pos rfl]) rfl]
    simp [State.received, State.answered]
  · exact exec_set_otherRate hready h hx hm hclosed (by rw [LinkState.takeFreeRate_due, honline]; rfl)
  · exact exec_set_otherRate hready h hx hm hclosed (by rw [LinkState.takeFreeRate_due, honline]; rfl)
  · rw [exec_set_sessionTimeout hready h hx, endIfOverdue]
    split
    · rename_i hdue
      obtain hclosed | hzero | hlt := hno
      · rw [endSession_closed (s := { s with items := y }) _ hclosed]
      · exact absurd hzero hdue.1
      · exact absurd hdue.2 (Nat.not_le.2 hlt)
    · rfl
  · rw [exec_set_sessionTimeout hready h hx, endIfOverdue, if_pos ⟨hne, hle⟩]

end

/-! ## DEVICE-RESET -/

/-- A link after the carrying out of a DEVICE-RESET, written out. -/
theorem LinkState.afterReset_eq (k : LinkState) (rate : Rate) : k.afterReset rate =
    { LinkState.reset with
      stretch := k.stretch
      pendingEnd := match k.session with
        | some n => some (.reset, n)
        | none => k.pendingEnd
      rate := rate
      counts := { LinkCounts.zero with ends := { LinkCounts.zero.ends with reset := if k.session.isSome then 1 else 0 } }
      tx := match k.tx with
        | .sending x => .sending { x with body := match x.body with
            | .reply r => .reply { r with after := .nothing }
            | b => b }
        | _ => .idle } := by
  have hcounts : k.countsAtReset =
      { LinkCounts.zero with ends := { LinkCounts.zero.ends with reset := if k.session.isSome then 1 else 0 } } := by
    unfold LinkState.countsAtReset
    cases k.session <;> rfl
  rw [LinkState.afterReset, hcounts] <;> rfl

/-- Settles O24. -/
theorem deviceResetIsPendingThenCarriedOut : Obligations.DeviceResetIsPendingThenCarriedOut := by
  unfold Obligations.DeviceResetIsPendingThenCarriedOut
  refine ⟨fun l seq keep s hready => ⟨fun yes hkeep => ?_, fun h0 h1 => ?_⟩, fun s hpin => ⟨fun l keep hdue => ?_, fun hnot => ?_⟩⟩
  · have hread : readYesNo keep = some yes := by subst hkeep; cases yes <;> rfl
    have howner (u : State) : deviceResetOwner l keep u =
        some (u.setDevice (.pending l yes .reply), .deviceReset u.nextEpoch, .carryOutReset) := by rw [deviceResetOwner, hread]
    exact unlessHeld_ready_answers (t := { s with device := .pending l yes .reply }) hready (howner _) rfl
  · have hread : readYesNo keep = none := by simp [readYesNo, h0, h1]
    have howner (u : State) : deviceResetOwner l keep u = some (u, .refused .badValue, .nothing) := by rw [deviceResetOwner, hread]
    exact unlessHeld_ready_answers (t := s) hready (howner _) rfl
  · refine ⟨{ a := s.links.a.afterReset (s.items.afterReset keep).rateA, b := s.links.b.afterReset (s.items.afterReset keep).rateB }, ?_, fun m => ?_⟩
    · rw [show exec .resetCarriedOut s = unlessHeld resetCarriedOut s from rfl, unlessHeld_free s hpin, resetCarriedOut, hdue]
      simp [State.afterReset, Items.afterReset, Timebase.afterReset, State.nextEpoch, hpin, State.reset]
    · cases m
      · exact LinkState.afterReset_eq _ _
      · exact LinkState.afterReset_eq _ _
  · rw [show exec .resetCarriedOut s = unlessHeld resetCarriedOut s from rfl, unlessHeld_free s hpin, resetCarriedOut]
    split
    · rename_i l keep hdue
      exact absurd hdue (hnot l keep)
    · rfl

/-! ## SNAPSHOT and SLOT-STATUS -/

theorem Bitmap.getLsbD_ofChannels (p : Fin 48 → Bool) (c : Fin 48) : (Bitmap.ofChannels p).getLsbD c = p c := by
  simp [Bitmap.ofChannels]

section
variable {s : State} {i : Fin 8} {c : Capture}

theorem State.slotReport_empty (h : s.slot i = none) :
    s.slotReport i = { slot := i, capture := none, place := 0, records := 0, blocks := 0 } := by simp [State.slotReport, h]

/-- The report of a slot that no engine shows values of. -/
theorem State.slotReport_recorded (h : s.slot i = some c) (hshown : c.phase = .extracting → s.engineShown i c.serial = none) :
    s.slotReport i =
      { slot := i, capture := some c, place := s.table.acceptance.idxOf i + 1, records := c.records.length, blocks := c.blocks.length } := by
  by_cases hp : c.phase = .extracting
  · simp [State.slotReport, h, hp, hshown hp]
  · simp [State.slotReport, h, hp]

/-- The report of an EXTRACTING slot with an engine's working values (R85). -/
theorem State.slotReport_working {w : Working} (h : s.slot i = some c) (hp : c.phase = .extracting) (hshown : s.engineShown i c.serial = some w) :
    s.slotReport i =
      { slot := i
        capture := some { c with effStart := w.effStart, effEnd := w.effEnd, flags := w.flags }
        place := s.table.acceptance.idxOf i + 1
        records := w.records.length
        blocks := w.blocks.length } := by
  simp [State.slotReport, h, hp, hshown]

/-- An engine shows nothing of its work while it reads. -/
theorem EngineState.shown_eq_none {x : EngineState} (h : ∃ r, x = .reading r) : x.shown = none := by
  obtain ⟨r, rfl⟩ := h
  rfl

theorem State.engineShown_eq_none {serial : Nat} (h : ∀ e, (s.engines.get e).worksOn = some (i, serial) → ∃ r, s.engines.get e = .reading r) :
    s.engineShown i serial = none := by
  unfold State.engineShown
  split
  · rename_i h0
    exact EngineState.shown_eq_none (h .e0 h0)
  · split
    · rename_i h1
      exact EngineState.shown_eq_none (h .e1 h1)
    · rfl

theorem State.engineShown_eq_some {serial : Nat} {e : Engine} {w : Working} (hw : s.engines.get e = .working w ∨ s.engines.get e = .ending w)
    (hslot : w.slot = i) (hserial : w.serial = serial) (hfirst : e = .e1 → s.engines.x0.worksOn ≠ some (i, serial)) :
    s.engineShown i serial = some w := by
  have hon : (s.engines.get e).worksOn = some (i, serial) ∧ (s.engines.get e).shown = some w := by
    subst hslot hserial
    obtain hw | hw := hw
    · rw [hw]
      exact ⟨rfl, rfl⟩
    · rw [hw]
      exact ⟨rfl, rfl⟩
  cases e with
  | e0 => exact (if_pos hon.1).trans hon.2
  | e1 => exact (if_neg (hfirst rfl)).trans ((if_pos hon.1).trans hon.2)

end

/-- Settles O25. -/
theorem snapshotAndSlotStatusReport : Obligations.SnapshotAndSlotStatusReport := by
  unfold Obligations.SnapshotAndSlotStatusReport
  intro l seq s hready
  refine ⟨fun h => ?_, fun t h => ⟨s.cond.snapshot t, ?_, rfl, fun c => ?_⟩, fun hend slot => ⟨fun hall => ?_, fun i hi => ?_, fun hge hall => ?_⟩,
    fun i => ⟨State.slotReport_empty, fun c hc => ⟨fun hp => ?_, fun hp => ⟨fun hreads => ?_, fun e w hw hslot hserial hfirst => ?_⟩⟩⟩⟩
  · exact unlessHeld_commandRow_ready hready (fun k => by simp [snapshotOwner, h]) rfl
  · exact unlessHeld_commandRow_ready hready (fun k => by simp [snapshotOwner, h]) rfl
  · simp only [Conditioner.snapshot, Conditioner.bitmap, Bitmap.getLsbD_ofChannels, and_self]
  · have howner (k : PerLink LinkState) : slotStatusOwner l slot { s with links := k } =
        some ({ s with links := k }, s.slotStatusReply [0, 1, 2, 3, 4, 5, 6, 7], .nothing) := by
      rw [slotStatusOwner, if_neg (by simp [hend]), if_pos hall]
      rfl
    exact unlessHeld_commandRow_ready hready howner rfl
  · have howner (k : PerLink LinkState) : slotStatusOwner l slot { s with links := k } =
        some ({ s with links := k }, s.slotStatusReply [i], .nothing) := by
      have hne : slot ≠ 0xFF#8 := by
        rintro rfl
        have := i.isLt
        simp at hi
        omega
      rw [slotStatusOwner, if_neg (by simp [hend]), if_neg hne, readSlot_eq_some hi] <;> rfl
    exact unlessHeld_commandRow_ready hready howner rfl
  · have howner (k : PerLink LinkState) : slotStatusOwner l slot { s with links := k } =
        some ({ s with links := k }, .refused .badValue, .nothing) := by
      rw [slotStatusOwner, if_neg (by simp [hend]), if_neg hall, readSlot_eq_none hge]
    exact unlessHeld_commandRow_ready hready howner rfl
  · exact State.slotReport_recorded hc fun h => absurd h hp
  · exact State.slotReport_recorded hc fun _ => State.engineShown_eq_none hreads
  · exact State.slotReport_working hc hp (State.engineShown_eq_some hw hslot hserial hfirst)

/-! ## Recording faults -/

theorem LinkState.noticed_fault (k : LinkState) : (k.noticed fun n => { n with fault := true }) =
    if k.session.isSome then { k with notices := { k.notices with fault := true } } else k := rfl

theorem State.notifyBoth_links (s : State) (f : Notices → Notices) (l : Link) : (s.notifyBoth f).links.get l = (s.links.get l).noticed f := by
  rw [State.notifyBoth, State.notify_eq, State.notify_eq]
  cases l <;> rfl

/-- The fault log takes these faults: the log, the way they came and each link's notice are all that changes. -/
theorem exec_faultRecord {s : State} {r : Reporter} {xs : List FaultReport} {w : Wires} (hpin : s.resetPin = false)
    (hpop : s.popFaults r = some (xs, { s with wires := w })) : ∃ links,
    exec (.faultRecord r) s = .next { s with faults := xs.foldl FaultLog.record s.faults, wires := w, links := links } ∧
      ∀ l, links.get l = if (s.links.get l).session.isSome then { s.links.get l with notices := { (s.links.get l).notices with fault := true } }
        else s.links.get l := by
  refine ⟨(s.notifyBoth fun n => { n with fault := true }).links, ?_, fun l => ?_⟩
  · rw [show exec (.faultRecord r) s = unlessHeld (faultRecord r) s from rfl, unlessHeld_free s hpin, faultRecord, hpop]
    simp [recordFaults, State.notifyBoth, State.notify_eq, State.modLink, State.setFaults]
  · rw [State.notifyBoth_links, LinkState.noticed_fault]

theorem exec_faultRecord_none {s : State} {r : Reporter} (hpin : s.resetPin = false) (hpop : s.popFaults r = none) :
    exec (.faultRecord r) s = .next s := by
  rw [show exec (.faultRecord r) s = unlessHeld (faultRecord r) s from rfl, unlessHeld_free s hpin, faultRecord, hpop]

/-- Settles O27. -/
theorem faultsAreRecorded : Obligations.FaultsAreRecorded := by
  unfold Obligations.FaultsAreRecorded
  refine ⟨fun f x => ⟨fun h => ?_, fun h => if_neg (Nat.not_lt.2 h)⟩, fun s hpin => ⟨fun xs rest h => ?_, fun e x rest h => ?_, fun x rest h => ?_,
    fun h => ?_, fun e h => ?_, fun h => ?_⟩⟩
  · have hnext : next65535 f.nextSeq = if f.nextSeq < 65535 then f.nextSeq + 1 else 1 := by
      rw [next65535]
      split <;> split <;> omega
    rw [FaultLog.record, if_pos (show _ < Config.faultRecords from h), hnext]
  · exact exec_faultRecord hpin (by rw [State.popFaults, h] <;> rfl)
  · exact exec_faultRecord hpin (by rw [State.popFaults, h] <;> rfl)
  · exact exec_faultRecord hpin (by rw [State.popFaults, h] <;> rfl)
  · exact exec_faultRecord_none hpin (by rw [State.popFaults, h])
  · exact exec_faultRecord_none hpin (by rw [State.popFaults, h])
  · exact exec_faultRecord_none hpin (by rw [State.popFaults, h])

end Sys2Proof.Machine
end

section
/-! SUPPORT. The runs (O28, O29, O30): START, STOP and the limit stop, and the blocks that take a stop. -/

-- One theorem at a time: the proofs of so long a text would each hold a thread.
set_option Elab.async false

namespace Sys2Proof.Machine

/-! ## START -/

section
variable {s : State} {l : Link} {seq : Byte}

/-- The ring does not see the links. -/
theorem ringAppend_setLinks (s : State) (k : PerLink LinkState) : ringAppend { s with links := k } = { ringAppend s with links := k } := by
  unfold ringAppend
  cases s.wires.ringIn <;> rfl

theorem ringCatchUp_setLinks (s : State) (k : PerLink LinkState) : ringCatchUp { s with links := k } = { ringCatchUp s with links := k } := by
  cases h : s.wires.ringIn with
  | nil => rw [ringCatchUp_of_nil h, ringCatchUp_of_nil (s := { s with links := k }) h]
  | cons c rest =>
    induction rest generalizing s c with
    | nil => rw [ringCatchUp_of_one h, ringCatchUp_of_one (s := { s with links := k }) h, ringAppend_setLinks]
    | cons d rest ih =>
      rw [ringCatchUp_of_cons h, ringCatchUp_of_cons (s := { s with links := k }) h, ringAppend_setLinks]
      exact ih _ d (by simp [ringAppend, h])

theorem acceptStart_setLinks (s : State) (k : PerLink LinkState) : acceptStart { s with links := k } = { acceptStart s with links := k } := by
  rw [acceptStart, ringTakeStart, ringCatchUp_setLinks]
  rfl

/-- R74: whether a capture still waits on the ring. -/
theorem State.capturesWait_iff (s : State) : s.capturesWait = true ↔
    ∃ i c, s.slot i = some c ∧ (c.phase = .armed ∨ c.phase = .queued ∨ c.phase = .extracting) := by
  have hwaits (c : Capture) : c.waitsOnRing = true ↔ c.phase = .armed ∨ c.phase = .queued ∨ c.phase = .extracting := by
    unfold Capture.waitsOnRing
    cases c.phase <;> simp
  constructor
  · intro h
    obtain ⟨x, hx, hw⟩ := List.any_eq_true.1 h
    obtain ⟨i, hi, rfl⟩ := Vector.mem_iff_getElem.1 (Vector.mem_toList_iff.1 hx)
    cases hs : s.table.slots[i] with
    | none => simp [hs] at hw
    | some c => exact ⟨⟨i, hi⟩, c, hs, (hwaits c).1 (by simpa [hs] using hw)⟩
  · rintro ⟨i, c, hc, hp⟩
    refine List.any_eq_true.2 ⟨some c, ?_, (hwaits c).2 hp⟩
    rw [← hc, State.slot]
    simp

theorem startOwner_accepted (hrun : s.time.running = false) (hlimit : s.time.limitReached = false) (hwait : s.capturesWait = false) :
    startOwner s = some (acceptStart s, .start (s.time.tick + 1), .nothing) := by
  simp [startOwner, hrun, hlimit, hwait]

theorem exec_start_accepted (hready : handlerReady s l seq = true) (hrun : s.time.running = false) (hlimit : s.time.limitReached = false)
    (hwait : s.capturesWait = false) :
    exec (.start l seq) s = .next ((acceptStart s).replied l seq 0x20#8 (.start (s.time.tick + 1))) := by
  have hlinks : (acceptStart s).links = s.links := by
    obtain ⟨w1, w2, e⟩ := ringTakeStart_only s
    rw [acceptStart, e]
    rfl
  refine unlessHeld_commandRow_ready hready (fun k => ?_) hlinks
  rw [← acceptStart_setLinks]
  exact startOwner_accepted (s := { s with links := k }) hrun hlimit hwait

/-- A START refused, and what its refusal goes by. -/
theorem exec_start_refused {code : Result} (hready : handlerReady s l seq = true)
    (h : ∀ k : PerLink LinkState, startOwner { s with links := k } = some ({ s with links := k }, .refused code, .nothing)) :
    exec (.start l seq) s = .next (s.replied l seq 0x20#8 (.refused code)) := unlessHeld_commandRow_ready hready h rfl

/-- An append that comes first is the same START: the ring takes what is on its way to it within the START (log 15). -/
theorem acceptStart_ringAppend (h : s.wires.ringIn ≠ []) : acceptStart (ringAppend s) = acceptStart s := by
  obtain ⟨c, rest, hc⟩ := List.exists_cons_of_ne_nil h
  rw [acceptStart, acceptStart, ringTakeStart, ringTakeStart, ringCatchUp_of_cons hc]
  simp [ringAppend, hc]

theorem ReadRequest.take_eq (q : ReadRequest) (rows : List Row) : { q with answer := q.take rows } =
    if q.answer = none ∧ ringReaches rows q.stop = true then { q with answer := some (ringAnswer rows q.start q.stop) } else q := by
  cases ha : q.answer with
  | some a =>
    have hnot : ¬ (some a = none ∧ ringReaches rows q.stop = true) := by simp
    have htake : q.take rows = q.answer := by simp [ReadRequest.take, ha]
    rw [if_neg hnot, htake]
  | none =>
    cases hreach : ringReaches rows q.stop
    · have htake : q.take rows = q.answer := by simp [ReadRequest.take, ha, hreach]
      rw [if_neg (by simp), htake]
    · simp [ReadRequest.take, ha, hreach]

/-- Settles O28. -/
theorem startBeginsARun : Obligations.StartBeginsARun := by
  unfold Obligations.StartBeginsARun
  intro l seq s hready
  refine ⟨fun hrun => ?_, fun hrun hlimit => ?_, fun hrun hlimit => ⟨fun hwaits => ?_, fun hfinished => ?_⟩⟩
  · exact exec_start_refused hready fun k => by simp [startOwner, hrun]
  · exact exec_start_refused hready fun k => by simp [startOwner, hrun, hlimit]
  · have hwait : s.capturesWait = true := s.capturesWait_iff.2 hwaits
    refine exec_start_refused hready fun k => ?_
    have hk : State.capturesWait { s with links := k } = true := hwait
    simp [startOwner, hrun, hlimit, hk]
  · have hwait : s.capturesWait = false := by
      rw [Bool.eq_false_iff]
      intro h
      obtain ⟨i, c, hc, hp⟩ := s.capturesWait_iff.1 h
      obtain hready | ⟨m, hclaimed⟩ := hfinished i c hc
      · simp [hready] at hp
      · simp [hclaimed] at hp
    rw [exec_start_accepted hready hrun hlimit hwait]
    refine ⟨fun u hne hu => ?_, fun hnil => ⟨s.cond.atStart, ?_, rfl, rfl, fun g => ?_, fun c => ?_⟩⟩
    · rw [show exec .ringAppend s = unlessHeld ringAppend s from rfl, unlessHeld_free s (handlerReady_free s l seq hready)] at hu
      obtain rfl : ringAppend s = u := by simpa using hu
      have happend : acceptStart (ringAppend s) = acceptStart s := acceptStart_ringAppend hne
      obtain ⟨ring, w1, w2, e⟩ := ringAppend_only s
      have hready' : handlerReady (ringAppend s) l seq = true := by rw [e]; exact hready
      rw [exec_start_accepted hready' (by rw [e]; exact hrun) (by rw [e]; exact hlimit) (by rw [e]; exact hwait), happend, e]
    · have hfix (q : ReadRequest) := ReadRequest.take_eq q s.ring
      rw [acceptStart, ringTakeStart, ringCatchUp_of_nil hnil]
      simp only [ringTakeReads, hfix]
      rfl
    · simp [Conditioner.atStart, Monitor.reset]
    · simp [Conditioner.atStart, Channel.atStart, Holds.empty]

/-! ## Stops -/

/-- Settles O29. -/
theorem stopEndsARun : Obligations.StopEndsARun := by
  unfold Obligations.StopEndsARun
  refine fun s => ⟨fun l seq hready => ⟨fun hrun => ?_, fun hrun start hstart => ?_⟩, fun hpin => ⟨fun hrun htick => ?_, fun hnot => ?_⟩⟩
  · exact unlessHeld_commandRow_ready hready (fun k => by simp [stopOwner, hrun]) rfl
  · refine unlessHeld_commandRow_ready hready (fun k => ?_) rfl
    simp [stopOwner, hrun, acceptStop, handStop, State.lastTickOfRun, hstart, State.modTime, State.modWires, Config.tickMax]
    rfl
  · rw [show exec .tickLimitStop s = unlessHeld limitStop s from rfl, unlessHeld_free s hpin, limitStop, if_pos (by simp [hrun, htick, Config.tickMax])]
    rfl
  · rw [show exec .tickLimitStop s = unlessHeld limitStop s from rfl, unlessHeld_free s hpin, limitStop, if_neg]
    obtain h | h := hnot
    · simp [h]
    · simp [Config.tickMax, h]

/-- Settles O30. -/
theorem stopsReachTheInjectorAndTheTriggerUnit : Obligations.StopsReachTheInjectorAndTheTriggerUnit := by
  unfold Obligations.StopsReachTheInjectorAndTheTriggerUnit
  refine fun s => ⟨fun l seq hready => unlessHeld_commandRow_ready hready (fun k => rfl) rfl, fun hpin => ?_⟩
  have hinj : exec .injectorTakeStop s = .next (injectorTakeStop s) := unlessHeld_free s hpin
  have htrig : exec .triggerUnitTakeStop s = .next (trigUnitTakeStop s) := unlessHeld_free s hpin
  refine ⟨fun h => ?_, fun h => ?_, fun reason tick rest h => ?_, fun hnot => ?_⟩
  · rw [hinj, injectorTakeStop, if_pos h]
    rfl
  · rw [hinj, injectorTakeStop, if_neg (by simp [h])]
  · rw [htrig, trigUnitTakeStop, h] <;> rfl
  · rw [htrig, trigUnitTakeStop]
    split
    · rename_i h
      exact absurd h (hnot _ _ _)
    · rfl

end

end Sys2Proof.Machine
end

section
/-! SUPPORT. Offers of every source (O31, O32) and the TEST that makes one (O38): the checks of R47 in their order, and what an accepted offer leaves. -/

-- One theorem at a time: the proofs of so long a text would each hold a thread.
set_option Elab.async false

namespace Sys2Proof.Machine

/-! ## The slot and the reference of an offer -/

section
variable {s : State}

theorem State.lowestEmpty_eq_some {auto : Bool} {i : Fin 8} (hempty : s.slot i = none) (hset : s.items.autoSlots.getLsbD i = auto)
    (hfirst : ∀ j < i, s.slot j = none → s.items.autoSlots.getLsbD j = !auto) : s.lowestEmpty auto = some i := by
  refine List.find?_eq_some_iff_getElem.2 ⟨by rw [hempty, hset]; simp, i.val, by simp, by simp, fun j hj => ?_⟩
  have hj8 : j < 8 := lt_trans hj i.isLt
  simp only [List.getElem_finRange, Fin.cast_mk, Bool.not_eq_true', Bool.and_eq_false_iff, beq_eq_false_iff_ne]
  cases hslot : s.slot ⟨j, hj8⟩ with
  | some c => exact .inl rfl
  | none =>
    refine .inr ?_
    rw [hfirst ⟨j, hj8⟩ hj hslot]
    cases auto <;> simp

theorem State.lowestEmpty_eq_none {auto : Bool} (h : ∀ j, s.slot j = none → s.items.autoSlots.getLsbD j = !auto) : s.lowestEmpty auto = none := by
  refine List.find?_eq_none.2 fun j _ => ?_
  cases hslot : s.slot j with
  | some c => simp
  | none =>
    rw [h j hslot]
    cases auto <;> simp

/-- R48: the slot that an offer picks is the one check 2 gives. -/
theorem State.chooseSlot_of_picks {q : SlotRequest} {i : Fin 8} (h : s.picks q i) : s.chooseSlot q = .ok i := by
  cases q with
  | numbered n =>
    obtain rfl : n = i.val := h
    exact dif_pos i.isLt
  | any =>
    obtain ⟨hempty, hset, hfirst⟩ := h
    rw [State.chooseSlot, State.lowestEmpty_eq_some hempty hset hfirst]
  | auto =>
    obtain ⟨hempty, hset, hfirst⟩ := h
    rw [State.chooseSlot, State.lowestEmpty_eq_some hempty hset hfirst]

/-- R44: the reference tick an offer's reference gives. -/
theorem State.offerRef_of_refersTo {x : Reference} {r : Int} (h : s.refersTo x r) : s.offerRef x = some r := by
  cases x with
  | unknown => exact h.elim
  | absolute t => exact congrArg some (Eq.symm h)
  | now => exact congrArg some (Eq.symm h)
  | lagged => exact congrArg some (Eq.symm h)
  | ahead n => exact congrArg some (Eq.symm h)

/-! ## The checks of R47 -/

variable {o : Offer}

theorem judgeOffer_stopped (h : s.time.running = false) : s.judgeOffer o = .error (.notRunning, none) := by
  simp [State.judgeOffer, h]

variable (hrun : s.time.running = true)
include hrun

theorem judgeOffer_noSlot {code : Result} (h : s.chooseSlot o.request = .error code) : s.judgeOffer o = .error (code, none) := by
  simp [State.judgeOffer, hrun, h]

variable {i : Fin 8} (hslot : s.picks o.request i)
include hslot

theorem judgeOffer_busy (h : s.slot i ≠ none) : s.judgeOffer o = .error (.slotBusy, some i) := by
  simp [State.judgeOffer, hrun, State.chooseSlot_of_picks hslot, Option.isSome_iff_ne_none, h]

variable (hempty : s.slot i = none)
include hempty

theorem judgeOffer_unknown (h : o.reference = .unknown) : s.judgeOffer o = .error (.badValue, some i) := by
  simp [State.judgeOffer, hrun, State.chooseSlot_of_picks hslot, hempty, h, State.offerRef]

variable {r : Int} (href : s.refersTo o.reference r)
include href

/-- Checks 5 and 6 of R47, once the slot and the reference are there. -/
theorem judgeOffer_placed : s.judgeOffer o =
    if r > s.tableCurrent + 65535 then .error (.tooFar, some i)
    else if r + ((o.post.getD s.items.windows[i].post : Nat) : Int) < s.tableFloor then .error (.windowGone, some i)
    else if o.pre.getD s.items.windows[i].pre > 2047 ∨ o.post.getD s.items.windows[i].post > 2047 then .error (.badValue, some i)
    else .ok { slot := i, ref := r, pre := o.pre.getD s.items.windows[i].pre, post := o.post.getD s.items.windows[i].post } := by
  simp [State.judgeOffer, hrun, State.chooseSlot_of_picks hslot, hempty, State.offerRef_of_refersTo href, State.windowOf]

end

/-! ## What an offer leaves -/

section
variable {s t : State} {o : Offer}

theorem takeOffer_refused {code : Result} {i : Option (Fin 8)} (h : s.judgeOffer o = .error (code, i)) : takeOffer o s = (s, .refused code i) := by
  rw [takeOffer, h]

theorem takeOffer_accepted {j : JudgedOffer} (h : s.judgeOffer o = .ok j) : takeOffer o s =
    (s.modTable fun t => t.accept j o (s.endsLater (j.ref + (j.post : Int))),
      .accepted j.slot (freshSerial s.table.serials 8 s.table.nextSerial) j.ref (j.ref - (j.pre : Int)) (j.ref + (j.post : Int))) := by
  rw [takeOffer, h]

/-- An offer changes the slot table alone, and not even that when it is refused. -/
theorem takeOffer_changesTable (o : Offer) (s : State) :
    (takeOffer o s).1 = { s with table := (takeOffer o s).1.table } ∧ ∀ code i, (takeOffer o s).2 = .refused code i → (takeOffer o s).1 = s := by
  cases h : s.judgeOffer o with
  | error e =>
    obtain ⟨code, i⟩ := e
    rw [takeOffer_refused h]
    exact ⟨rfl, fun _ _ _ => rfl⟩
  | ok j =>
    rw [takeOffer_accepted h]
    refine ⟨rfl, fun code i h => by simp at h⟩

/-- An offer does not see the links. -/
theorem takeOffer_setLinks (o : Offer) (s : State) (k : PerLink LinkState) :
    takeOffer o { s with links := k } = ({ (takeOffer o s).1 with links := k }, (takeOffer o s).2) := by
  have hjudge : State.judgeOffer { s with links := k } o = s.judgeOffer o := rfl
  cases h : s.judgeOffer o with
  | error e =>
    obtain ⟨code, i⟩ := e
    rw [takeOffer_refused h, takeOffer_refused (hjudge.trans h)]
  | ok j =>
    rw [takeOffer_accepted h, takeOffer_accepted (hjudge.trans h)]
    rfl

theorem takeOffer_eq_refused {code : Result} {i : Option (Fin 8)} (h : (takeOffer o s).2 = .refused code i) (k : PerLink LinkState) :
    takeOffer o { s with links := k } = ({ s with links := k }, .refused code i) := by
  rw [takeOffer_setLinks, (takeOffer_changesTable o s).2 code i h, h]

theorem takeOffer_eq_accepted {i : Fin 8} {serial : Nat} {r a b : Int} (h : (takeOffer o s).2 = .accepted i serial r a b) (k : PerLink LinkState) :
    takeOffer o { s with links := k } = ({ s with table := (takeOffer o s).1.table, links := k }, .accepted i serial r a b) := by
  rw [takeOffer_setLinks, (takeOffer_changesTable o s).1, h]

/-- The refusals of R47 for an offer of any source. -/
theorem takeOffer_refusals (o : Offer) (s : State) :
    (s.time.running = false → takeOffer o s = (s, .refused .notRunning none)) ∧
    (s.time.running = true →
      (∀ n, o.request = .numbered n → 8 ≤ n → takeOffer o s = (s, .refused .badValue none)) ∧
      (o.request = .any → (∀ j, s.slot j = none → s.items.autoSlots.getLsbD j = true) → takeOffer o s = (s, .refused .noSlot none)) ∧
      (o.request = .auto → (∀ j, s.slot j = none → s.items.autoSlots.getLsbD j = false) → takeOffer o s = (s, .refused .noSlot none)) ∧
      ∀ i, s.picks o.request i →
        (s.slot i ≠ none → takeOffer o s = (s, .refused .slotBusy (some i))) ∧
        (s.slot i = none →
          (o.reference = .unknown → takeOffer o s = (s, .refused .badValue (some i))) ∧
          ∀ r, s.refersTo o.reference r →
            (s.tableCurrent + 65535 < r → takeOffer o s = (s, .refused .tooFar (some i))) ∧
            (r ≤ s.tableCurrent + 65535 →
              (r + ((o.post.getD s.items.windows[i].post : Nat) : Int) < s.tableFloor → takeOffer o s = (s, .refused .windowGone (some i))) ∧
              (s.tableFloor ≤ r + ((o.post.getD s.items.windows[i].post : Nat) : Int) →
                2047 < o.pre.getD s.items.windows[i].pre ∨ 2047 < o.post.getD s.items.windows[i].post →
                takeOffer o s = (s, .refused .badValue (some i)))))) := by
  refine ⟨fun h => takeOffer_refused (judgeOffer_stopped h), fun hrun => ⟨fun n hn hge => ?_, fun hany h => ?_, fun hauto h => ?_,
    fun i hi => ⟨fun h => takeOffer_refused (judgeOffer_busy hrun hi h), fun hempty => ⟨fun h => takeOffer_refused (judgeOffer_unknown hrun hi hempty h),
    fun r hr => ⟨fun hfar => ?_, fun hnear => ⟨fun hgone => ?_, fun hin hlong => ?_⟩⟩⟩⟩⟩⟩
  · exact takeOffer_refused (judgeOffer_noSlot hrun (by rw [hn]; exact dif_neg (Nat.not_lt.2 hge)))
  · exact takeOffer_refused (judgeOffer_noSlot hrun (by rw [hany, State.chooseSlot, State.lowestEmpty_eq_none h]))
  · exact takeOffer_refused (judgeOffer_noSlot hrun (by rw [hauto, State.chooseSlot, State.lowestEmpty_eq_none h]))
  · exact takeOffer_refused (by rw [judgeOffer_placed hrun hi hempty hr, if_pos hfar])
  · exact takeOffer_refused (by rw [judgeOffer_placed hrun hi hempty hr, if_neg (by omega), if_pos hgone])
  · exact takeOffer_refused (by rw [judgeOffer_placed hrun hi hempty hr, if_neg (by omega), if_neg (by omega), if_pos hlong])

end

/-! ## TRIGGER -/

section
variable {s t : State} {l : Link} {seq slot kind : Byte} {tick : BitVec 40} {pre post label : BitVec 16}

theorem readRequest_of_numbered {i : Fin 8} (h : slot.toNat = i.val) : readRequest slot = .numbered i.val := by
  have hne : slot ≠ 0xFF#8 := by
    rintro rfl
    have := i.isLt
    simp at h
    omega
  rw [readRequest, if_neg hne, h]

theorem State.picks_of_asksFor {i : Fin 8} (h : s.asksFor slot i) : s.picks (readRequest slot) i := by
  obtain hn | ⟨rfl, hany⟩ := h
  · rw [readRequest_of_numbered hn]
    rfl
  · exact hany

theorem State.refersTo_of_formsRef {r : Int} (h : s.formsRef kind tick r) : s.refersTo (readReference kind tick) r := by
  obtain ⟨rfl, h⟩ | ⟨rfl, h⟩ | ⟨rfl, h⟩ := h
  · exact h
  · exact h
  · exact h

theorem readReference_unknown (h : 3 ≤ kind.toNat) : readReference kind tick = .unknown := by
  unfold readReference
  split
  · omega
  · omega
  · omega
  · rfl

theorem readWindowSide_getD (x : BitVec 16) (d : Nat) : (readWindowSide x).getD d = sideOr x d := by
  unfold readWindowSide sideOr
  split <;> rfl

theorem exec_trigger_refused {code : Result} {i : Option (Fin 8)} (hready : handlerReady s l seq = true)
    (h : takeOffer (linkOffer l slot kind tick pre post label) s = (s, .refused code i)) :
    exec (.trigger l seq slot kind tick pre post label) s = .next (s.replied l seq 0x30#8 (.refused code)) :=
  unlessHeld_commandRow_ready hready (fun k => by rw [triggerOwner, takeOffer_setLinks, h]) rfl

theorem exec_trigger_accepted {i : Fin 8} {serial : Nat} {r a b : Int} (hready : handlerReady s l seq = true)
    (h : takeOffer (linkOffer l slot kind tick pre post label) s = (t, .accepted i serial r a b)) :
    exec (.trigger l seq slot kind tick pre post label) s =
      .next ((t.triggerEntry (.trigger i serial (linkSource l)) false).replied l seq 0x30#8 (.trigger i serial r a b)) := by
  have hlinks : t.links = s.links := by
    have := takeOffer_links (linkOffer l slot kind tick pre post label) s
    rwa [h] at this
  exact unlessHeld_commandRow_ready hready (fun k => by rw [triggerOwner, takeOffer_setLinks, h] <;> rfl) hlinks

end

/-- Settles O31. -/
theorem triggerTakesASlot : Obligations.TriggerTakesASlot := by
  unfold Obligations.TriggerTakesASlot
  have accepted (o : Offer) (i : Fin 8) (r : Int) (s : State) (hrun : s.time.running = true) (hi : s.picks o.request i) (hempty : s.slot i = none)
      (hr : s.refersTo o.reference r) (hnear : r ≤ s.tableCurrent + 65535)
      (hin : s.tableFloor ≤ r + ((o.post.getD s.items.windows[i].post : Nat) : Int)) (hp : o.pre.getD s.items.windows[i].pre ≤ 2047)
      (hq : o.post.getD s.items.windows[i].post ≤ 2047) :=
    takeOffer_accepted (o := o) (by
      rw [judgeOffer_placed hrun hi hempty hr, if_neg (by omega), if_neg (by omega), if_neg (by omega)])
  refine ⟨fun o i r s hrun hi hempty hr => ?_, fun l seq slot kind tick pre post label i r s hready hrun hi hempty hr => ?_⟩
  · dsimp only
    intro hnear hin hp hq
    rw [accepted o i r s hrun hi hempty hr hnear hin hp hq]
    unfold State.endsLater
    cases s.tableNewest <;> rfl
  · dsimp only
    intro hnear hin hp hq
    have hp' := readWindowSide_getD pre s.items.windows[i].pre
    have hq' := readWindowSide_getD post s.items.windows[i].post
    have h := accepted (linkOffer l slot kind tick pre post label) i r s hrun (State.picks_of_asksFor hi) hempty (State.refersTo_of_formsRef hr) hnear
      (by rw [linkOffer, hq']; exact hin) (by rw [linkOffer, hp']; exact hp) (by rw [linkOffer, hq']; exact hq)
    refine ⟨?_, fun hlaw => ?_⟩
    · rw [exec_trigger_accepted hready h]
      simp only [linkOffer, hp', hq', State.endsLater]
      cases l <;> cases s.tableNewest <;> rfl
    · obtain ⟨hlow, hhigh⟩ := freshSerial_range (used := s.table.serials) (k := 8) hlaw.nextSerial
      exact ⟨hlow, hhigh, fun j c hc => hlaw.freshSerial_fresh hc⟩

/-- Settles O32. -/
theorem offersAreRefusedInOrder : Obligations.OffersAreRefusedInOrder := by
  unfold Obligations.OffersAreRefusedInOrder
  refine ⟨takeOffer_refusals, fun l seq slot kind tick pre post label s hready => ?_⟩
  obtain ⟨hstopped, hrunning⟩ := takeOffer_refusals (linkOffer l slot kind tick pre post label) s
  refine ⟨fun h => exec_trigger_refused hready (hstopped h), fun hrun => ?_⟩
  obtain ⟨hnumber, hany, -, hpicked⟩ := hrunning hrun
  refine ⟨fun hge hne => ?_, fun hff hno => ?_, fun i hi => ?_⟩
  · exact exec_trigger_refused hready (hnumber slot.toNat (if_neg hne) hge)
  · exact exec_trigger_refused hready (hany (if_pos hff) hno)
  · obtain ⟨hbusy, hfree⟩ := hpicked i (State.picks_of_asksFor hi)
    refine ⟨fun h => exec_trigger_refused hready (hbusy h), fun hempty => ?_⟩
    obtain ⟨hunknown, href⟩ := hfree hempty
    refine ⟨fun h => exec_trigger_refused hready (hunknown (readReference_unknown h)), fun r hr => ?_⟩
    obtain ⟨hfar, hnear⟩ := href r (State.refersTo_of_formsRef hr)
    simp only [linkOffer, readWindowSide_getD] at hfar hnear
    exact ⟨fun h => exec_trigger_refused hready (hfar h), fun h => ⟨fun hgone => exec_trigger_refused hready ((hnear h).1 hgone),
      fun hin hlong => exec_trigger_refused hready ((hnear h).2 hin hlong)⟩⟩

/-! ## TEST -/

section
variable {s t : State} {l : Link} {seq count slot : Byte} {channels : Bitmap} {delay width gap trigDelay label : BitVec 16}

/-- The fields of a TEST that names no slot or this one. -/
def TestFields.ofOperands (channels : Bitmap) (delay width gap : BitVec 16) (count : Byte) (trigDelay label : BitVec 16) (named : Option (Fin 8)) : TestFields where
  channels := channels
  delay := delay.toNat
  width := width.toNat
  gap := gap.toNat
  count := count.toNat
  slot := named
  trigDelay := trigDelay.toNat
  label := label.toNat

theorem readTestSlot_eq_none (h : 7 < slot.toNat) (hne : slot ≠ 0xFF#8) : readTestSlot slot = none := by
  rw [readTestSlot, if_neg hne, readSlot_eq_none h]
  rfl

theorem readTestSlot_named {i : Fin 8} (h : slot.toNat = i.val) : readTestSlot slot = some (some i) := by
  have hne : slot ≠ 0xFF#8 := by
    rintro rfl
    have := i.isLt
    simp at h
    omega
  rw [readTestSlot, if_neg hne, readSlot_eq_some h]
  rfl

/-- R144 check 1, but for the slot. -/
theorem readTest_eq (h : channels ≠ 0#48 ∧ 1 ≤ width.toNat ∧ width.toNat ≤ 4095 ∧ 1 ≤ gap.toNat ∧ gap.toNat ≤ 4095 ∧ count ≠ 0#8) :
    readTest channels delay width gap count slot trigDelay label =
      (readTestSlot slot).map (TestFields.ofOperands channels delay width gap count trigDelay label) := by
  obtain ⟨hchannels, hw1, hw2, hg1, hg2, hcount⟩ := h
  rw [readTest, if_pos (by simp [pulseFits, hchannels, hw1, hw2, hg1, hg2, hcount])]
  rfl

theorem readTest_eq_none (h : ¬ (channels ≠ 0#48 ∧ 1 ≤ width.toNat ∧ width.toNat ≤ 4095 ∧ 1 ≤ gap.toNat ∧ gap.toNat ≤ 4095 ∧ count ≠ 0#8
    ∧ (slot.toNat ≤ 7 ∨ slot = 0xFF#8))) : readTest channels delay width gap count slot trigDelay label = none := by
  by_cases hfields : channels ≠ 0#48 ∧ 1 ≤ width.toNat ∧ width.toNat ≤ 4095 ∧ 1 ≤ gap.toNat ∧ gap.toNat ≤ 4095 ∧ count ≠ 0#8
  · have hslot : ¬ (slot.toNat ≤ 7 ∨ slot = 0xFF#8) := by
      intro hs
      obtain ⟨hchannels, hw1, hw2, hg1, hg2, hcount⟩ := hfields
      exact h ⟨hchannels, hw1, hw2, hg1, hg2, hcount, hs⟩
    rw [not_or] at hslot
    rw [readTest_eq hfields, readTestSlot_eq_none (by omega) hslot.2]
    rfl
  · refine if_neg fun hall => hfields ?_
    simpa [pulseFits, and_assoc] using hall

/-- A delay of 0 begins the first high phase at once (R144). -/
theorem TestFields.begin_ofOperands (named : Option (Fin 8)) (run : TestRun) :
    (TestFields.ofOperands channels delay width gap count trigDelay label named).begin run =
      if delay = 0#16 then .injecting run 1 true run.width else .delay run delay.toNat := by
  by_cases h : delay = 0#16
  · subst h
    rfl
  · have hne : delay.toNat ≠ 0 := fun e => h (BitVec.eq_of_toNat_eq e)
    rw [TestFields.begin, if_neg h]
    exact if_neg hne

/-- The run of a TEST that is answered for, as R144 gives it. -/
theorem exec_test_refused {code : Result} (hready : handlerReady s l seq = true)
    (h : ∀ k : PerLink LinkState, testOwner channels delay width gap count slot trigDelay label { s with links := k } =
      some ({ s with links := k }, .refused code, .nothing)) :
    exec (.test l seq channels delay width gap count slot trigDelay label) s = .next (s.replied l seq 0x60#8 (.refused code)) :=
  unlessHeld_commandRow_ready hready h rfl

theorem readTest_isSome (h : readTest channels delay width gap count slot trigDelay label =
      (readTestSlot slot).map (TestFields.ofOperands channels delay width gap count trigDelay label)) (hslot : slot.toNat ≤ 7 ∨ slot = 0xFF#8) :
    ∃ f, readTest channels delay width gap count slot trigDelay label = some f := by
  rw [h]
  obtain hlow | rfl := hslot
  · rw [readTestSlot_named (i := ⟨slot.toNat, by omega⟩) rfl]
    exact ⟨_, rfl⟩
  · exact ⟨_, rfl⟩

theorem testOwner_busy (hread : ∃ f, readTest channels delay width gap count slot trigDelay label = some f) (h : s.injector ≠ .idle) :
    testOwner channels delay width gap count slot trigDelay label s = some (s, .refused .testBusy, .nothing) := by
  obtain ⟨f, hf⟩ := hread
  simp [testOwner, hf, h]

theorem testOwner_stopped (hread : ∃ f, readTest channels delay width gap count slot trigDelay label = some f) (hidle : s.injector = .idle)
    (h : s.time.running = false) :
    testOwner channels delay width gap count slot trigDelay label s = some (s, .refused .notRunning, .nothing) := by
  obtain ⟨f, hf⟩ := hread
  simp [testOwner, hf, hidle, h]

variable {f : TestFields} (hread : readTest channels delay width gap count slot trigDelay label = some f) (hidle : s.injector = .idle)
  (hrun : s.time.running = true)
include hread hidle hrun

theorem testOwner_unnamed (hf : f.slot = none) : testOwner channels delay width gap count slot trigDelay label s =
    some ((acceptTest f none s).1, (acceptTest f none s).2, .nothing) := by
  simp [testOwner, hread, hidle, hrun, hf]

theorem testOwner_named {i : Fin 8} (hf : f.slot = some i) : testOwner channels delay width gap count slot trigDelay label s =
    some ((offerTest f i s).1, (offerTest f i s).2, .nothing) := by
  simp [testOwner, hread, hidle, hrun, hf]

end

theorem offerTest_refused {s t : State} {f : TestFields} {i : Fin 8} {code : Result} {at' : Option (Fin 8)}
    (h : takeOffer (testOffer f i) s = (t, .refused code at')) : offerTest f i s = (t, .refused code) := by
  rw [offerTest, h]

theorem offerTest_accepted {s t : State} {f : TestFields} {i n : Fin 8} {serial : Nat} {r a b : Int}
    (h : takeOffer (testOffer f i) s = (t, .accepted n serial r a b)) :
    offerTest f i s = acceptTest f (some (n, serial, r, a, b)) (t.testEntry n serial) := by
  rw [offerTest, h]

/-- Settles O38. -/
theorem testBeginsARun : Obligations.TestBeginsARun := by
  unfold Obligations.TestBeginsARun
  intro l seq channels delay width gap count slot trigDelay label s hready
  refine ⟨fun hbad => ?_, fun hfits => ⟨fun hbusy => ?_, fun hidle hrun => ?_, fun hidle hrun => ⟨fun hff => ?_, fun i hi => ?_⟩⟩⟩
  · exact exec_test_refused hready fun k => by rw [testOwner, readTest_eq_none hbad]
  all_goals
    obtain ⟨hchannels, hw1, hw2, hg1, hg2, hcount, hslot⟩ := hfits
    have hread := readTest_eq (slot := slot) (delay := delay) (trigDelay := trigDelay) (label := label) ⟨hchannels, hw1, hw2, hg1, hg2, hcount⟩
  · exact exec_test_refused hready fun k => testOwner_busy (readTest_isSome hread hslot) hbusy
  · exact exec_test_refused hready fun k => testOwner_stopped (readTest_isSome hread hslot) hidle hrun
  · rw [hff] at hread ⊢
    refine unlessHeld_commandRow_ready hready (fun k => ?_) rfl
    rw [testOwner_unnamed (s := { s with links := k }) hread hidle hrun rfl, acceptTest, TestFields.begin_ofOperands]
    rfl
  · rw [readTestSlot_named hi] at hread
    refine ⟨fun code at' (h : (takeOffer (testOffer (TestFields.ofOperands channels delay width gap count trigDelay label (some i)) i) s).2 = _) => ?_,
      fun n serial r a b (h : (takeOffer (testOffer (TestFields.ofOperands channels delay width gap count trigDelay label (some i)) i) s).2 = _) => ?_⟩
    · refine exec_test_refused hready fun k => ?_
      rw [testOwner_named (s := { s with links := k }) hread hidle hrun rfl, offerTest_refused (takeOffer_eq_refused h k)]
    · refine unlessHeld_commandRow_ready hready (fun k => ?_) rfl
      rw [testOwner_named (s := { s with links := k }) hread hidle hrun rfl, offerTest_accepted (takeOffer_eq_accepted h k), acceptTest,
        TestFields.begin_ofOperands]
      rfl

end Sys2Proof.Machine
end

section
/-! SUPPORT. ABORT (O33), FETCH (O35) and JOURNAL-ACK (O37): the owners' checks in their order, and what they leave. -/

-- One theorem at a time: the proofs of so long a text would each hold a thread.
set_option Elab.async false

namespace Sys2Proof.Machine

theorem readYesNo_eq_none {b : Byte} (h : 1 < b.toNat) : readYesNo b = none := by
  have not0 : b ≠ 0#8 := by rintro rfl; simp at h
  have not1 : b ≠ 1#8 := by rintro rfl; simp at h
  simp [readYesNo, not0, not1]

theorem readYesNo_of_le {b : Byte} (h : b.toNat ≤ 1) : readYesNo b = some (b == 1#8) := by
  by_cases is0 : b = 0#8
  · subst is0
    rfl
  · have is1 : b = 1#8 := by bv_omega
    subst is1
    rfl

/-! ## ABORT -/

theorem orderDrop_eq (e : Engine) (i : Fin 8) (serial : Nat) (s : State) : orderDrop e i serial s = { s with
    wires := { s.wires with
      drops := s.wires.drops.set e (if (s.engines.get e).worksOn = some (i, serial) then s.wires.drops.get e ++ [(i, serial)] else s.wires.drops.get e) } } := by
  unfold orderDrop
  split
  · rfl
  · cases e <;> rfl

/-- What an accepted ABORT leaves (R76). -/
theorem acceptAbort_eq (i : Fin 8) (c : Capture) (s : State) : acceptAbort i c s = { s with
    table := { s.table with
      slots := s.table.slots.set i none
      acceptance := s.table.acceptance.erase i
      queue := if c.phase = .queued then s.table.queue.erase i else s.table.queue }
    wires := { s.wires with
      drops :=
        { x0 := if c.phase = .extracting ∧ (s.engines.get .e0).worksOn = some (i, c.serial) then s.wires.drops.get .e0 ++ [(i, c.serial)]
            else s.wires.drops.get .e0
          x1 := if c.phase = .extracting ∧ (s.engines.get .e1).worksOn = some (i, c.serial) then s.wires.drops.get .e1 ++ [(i, c.serial)]
            else s.wires.drops.get .e1 }
      tableReturns := if c.blocks = [] then s.wires.tableReturns else s.wires.tableReturns ++ [c.blocks]
      readoutIn := { a := s.wires.readoutIn.a ++ [.abort i c.serial], b := s.wires.readoutIn.b ++ [.abort i c.serial] } } } := by
  rw [acceptAbort, emptySlot_eq, abortWork]
  cases hp : c.phase with
  | extracting => simp only [orderDrop_eq, true_and, reduceCtorEq, if_false]; rfl
  | queued => simp only [reduceCtorEq, false_and, if_false, if_true]; rfl
  | armed => simp only [reduceCtorEq, false_and, if_false]; rfl
  | ready => simp only [reduceCtorEq, false_and, if_false]; rfl
  | claimed m => simp only [reduceCtorEq, false_and, if_false]; rfl

section
variable {s : State} {l : Link} {slot force : Byte} (hends : s.wires.tableEnds.get l = 0)
include hends

theorem abortOwner_badValue (h : 1 < force.toNat ∨ 7 < slot.toNat) : abortOwner l slot force s = some (s, .refused .badValue, .nothing) := by
  rw [abortOwner, if_neg (not_not_intro hends)]
  obtain hforce | hslot := h
  · rw [readYesNo_eq_none hforce]
  · rw [readSlot_eq_none hslot]
    cases readYesNo force <;> rfl

variable {i : Fin 8} (hi : slot.toNat = i.val) (hforce : force.toNat ≤ 1)
include hi hforce

theorem abortOwner_noCapture (h : s.slot i = none) : abortOwner l slot force s = some (s, .refused .noCapture, .nothing) := by
  simp [abortOwner, hends, readYesNo_of_le hforce, readSlot_eq_some hi, h]

variable {c : Capture} (hc : s.slot i = some c)
include hc

theorem abortOwner_claimed (h : c.guardedFrom l (force == 1#8) = true) :
    abortOwner l slot force s = some (s, .refused .claimed, .nothing) := by
  simp [abortOwner, hends, readYesNo_of_le hforce, readSlot_eq_some hi, hc, h]

theorem abortOwner_accepted (h : c.guardedFrom l (force == 1#8) = false) :
    abortOwner l slot force s = some (acceptAbort i c s, .abort i c.serial c.phase, .nothing) := by
  simp [abortOwner, hends, readYesNo_of_le hforce, readSlot_eq_some hi, hc, h]

end

/-- Settles O33. -/
theorem abortEmptiesTheSlot : Obligations.AbortEmptiesTheSlot := by
  unfold Obligations.AbortEmptiesTheSlot
  intro l seq slot force s hready hends
  refine ⟨fun h => unlessHeld_commandRow_ready hready (fun k => abortOwner_badValue hends h) rfl, fun i hi hforce => ⟨fun h => ?_, fun c hc =>
    ⟨fun hp hno => ?_, fun hallowed => ?_⟩⟩⟩
  · exact unlessHeld_commandRow_ready hready (fun k => abortOwner_noCapture hends hi hforce h) rfl
  · have hguard : c.guardedFrom l (force == 1#8) = true := by simp [Capture.guardedFrom, hp, hno]
    exact unlessHeld_commandRow_ready hready (fun k => abortOwner_claimed (s := { s with links := k }) hends hi hforce hc hguard) rfl
  · have hguard : c.guardedFrom l (force == 1#8) = false := by
      by_cases hp : c.phase = .claimed (otherLink l)
      · simp [Capture.guardedFrom, hallowed hp]
      · simp [Capture.guardedFrom, hp]
    refine unlessHeld_commandRow_ready hready (fun k => ?_) rfl
    rw [abortOwner_accepted (s := { s with links := k }) hends hi hforce hc hguard, acceptAbort_eq]

/-! ## FETCH -/

/-- R106 check 2: a delivery entry or the current delivery names the slot. -/
theorem Readout.names_iff (q : Readout) (i : Fin 8) :
    q.names i = true ↔ (∃ n k, QueueEntry.delivery i n k ∈ q.queue) ∨ ∃ d, q.current = some d ∧ d.slot = i := by
  have hdelivers (x : QueueEntry) : x.delivers i = true ↔ ∃ n k, x = .delivery i n k := by
    cases x <;> simp [QueueEntry.delivers]
  simp only [Readout.names, Bool.or_eq_true, List.any_eq_true, hdelivers, beq_iff_eq, Option.map_eq_some_iff]
  refine or_congr_left ⟨?_, ?_⟩
  · rintro ⟨x, hx, n, k, rfl⟩
    exact ⟨n, k, hx⟩
  · rintro ⟨n, k, hx⟩
    exact ⟨_, hx, n, k, rfl⟩

theorem fetchRefusal_eq_none {q : Readout} {i : Fin 8} (hnot : ¬ q.names i = true) (hroom : q.queue.length + q.reserved.length < 8) :
    fetchRefusal q i = none := by
  rw [fetchRefusal, if_neg hnot, if_neg (show ¬ Config.deliveryPlaces ≤ q.placesUsed from Nat.not_le.2 hroom)]

theorem readFetch_eq_none {slot claim fromPart : Byte} (h : 7 < slot.toNat ∨ 1 < claim.toNat ∨ 18 < fromPart.toNat) :
    readFetch slot claim fromPart = none := by
  unfold readFetch
  split
  · rename_i hslot hclaim
    obtain h | h | h := h
    · simp [readSlot_eq_none h] at hslot
    · simp [readYesNo_eq_none h] at hclaim
    · exact if_neg (Nat.not_le.2 h)
  · rfl

theorem readFetch_eq_some {slot claim fromPart : Byte} {i : Fin 8} (hi : slot.toNat = i.val) (hclaim : claim.toNat ≤ 1)
    (hpart : fromPart.toNat ≤ 18) : readFetch slot claim fromPart = some (i, claim == 1#8) := by
  simp [readFetch, readSlot_eq_some hi, readYesNo_of_le hclaim, hpart]

section
variable {s : State} {l : Link} {slot claim fromPart : Byte} (hends : s.wires.tableEnds.get l = 0) (hout : s.wires.readoutEnds.get l = 0)
include hends hout

theorem fetchOwner_badValue (h : 7 < slot.toNat ∨ 1 < claim.toNat ∨ 18 < fromPart.toNat) :
    fetchOwner l slot claim fromPart s = some (s, .refused .badValue, .nothing) := by
  simp [fetchOwner, hends, hout, readFetch_eq_none h]

variable {i : Fin 8} (hi : slot.toNat = i.val) (hclaim : claim.toNat ≤ 1) (hpart : fromPart.toNat ≤ 18)
include hi hclaim hpart

theorem fetchOwner_refused {code : Result} (h : fetchRefusal (s.readouts.get l) i = some code) :
    fetchOwner l slot claim fromPart s = some (s, .refused code, .nothing) := by
  simp [fetchOwner, hends, hout, readFetch_eq_some hi hclaim hpart, h]

theorem fetchOwner_put (hin : s.wires.readoutIn.get l = []) (h : fetchRefusal (s.readouts.get l) i = none) :
    fetchOwner l slot claim fromPart s =
      some ((tableTakeFetch l i (claim == 1#8) fromPart.toNat s).1, (tableTakeFetch l i (claim == 1#8) fromPart.toNat s).2, .nothing) := by
  simp [fetchOwner, hends, hout, hin, readFetch_eq_some hi hclaim hpart, h]

end

/-! ### What the slot table makes of a FETCH (R107) -/

section
variable {s : State} {l : Link} {i : Fin 8} {c : Capture} {claim : Bool} {n : Nat} (hc : s.slot i = some c)
include hc

theorem tableTakeFetch_unfinished (h : c.phase.finished = false) : tableTakeFetch l i claim n s = fetchPending l i c claim n s := by
  rw [tableTakeFetch, hc]
  cases hp : c.phase with
  | ready => simp [hp, Phase.finished] at h
  | claimed m => simp [hp, Phase.finished] at h
  | _ => simp [hp]

theorem tableTakeFetch_claimed (h : c.phase = .claimed (otherLink l)) (hclaim : claim = true) :
    tableTakeFetch l i claim n s = (s, .refused .claimed) := by
  simp [tableTakeFetch, hc, h, hclaim]

theorem tableTakeFetch_finished (h : c.phase.finished = true) (hclaim : c.phase = .claimed (otherLink l) → claim = false) :
    tableTakeFetch l i claim n s = fetchQueued l i c (if c.phase = .ready ∧ claim = true then .claimed l else c.phase) n s := by
  rw [tableTakeFetch, hc]
  cases hp : c.phase with
  | ready => cases claim <;> simp [hp]
  | claimed m =>
    have hfree : (claim && m != l) = false := by
      by_cases hm : m = l
      · simp [hm]
      · have hother : m = otherLink l := by
          cases m <;> cases l <;> simp_all [otherLink]
        rw [hclaim (by rw [hp, hother])]
        rfl
    simp [hp, hfree]
  | _ => simp [hp, Phase.finished] at h

end

/-- Settles O35. -/
theorem fetchWaitsOrQueues : Obligations.FetchWaitsOrQueues := by
  unfold Obligations.FetchWaitsOrQueues
  intro l seq slot claim fromPart s hready hends hout hin
  dsimp only
  refine ⟨fun h => unlessHeld_commandRow_ready hready (fun k => fetchOwner_badValue hends hout h) rfl, fun i hi hclaim hpart => ?_⟩
  rw [← Readout.names_iff]
  refine ⟨fun hnamed => ?_, fun hnot => ⟨fun hfull => ?_, fun hroom => ?_⟩⟩
  · exact unlessHeld_commandRow_ready hready
      (fun k => fetchOwner_refused (s := { s with links := k }) hends hout hi hclaim hpart (by simp [fetchRefusal, hnamed])) rfl
  · exact unlessHeld_commandRow_ready hready (fun k => fetchOwner_refused (s := { s with links := k }) hends hout hi hclaim hpart
      (by simp [fetchRefusal, hnot, Readout.placesUsed, Config.deliveryPlaces, hfull])) rfl
  · have hput (k : PerLink LinkState) := fetchOwner_put (s := { s with links := k }) hends hout hi hclaim hpart hin
      (fetchRefusal_eq_none hnot hroom)
    refine ⟨fun h => ?_, fun c hc => ⟨fun hp hf => ?_, fun hp hf => ?_, fun hp hcl => ?_, fun hp hcl => ?_⟩⟩
    · refine unlessHeld_commandRow_ready hready (fun k => ?_) rfl
      have hk : State.slot { s with links := k } i = none := h
      rw [hput, tableTakeFetch, hk]
    · refine unlessHeld_commandRow_ready hready (fun k => ?_) rfl
      rw [hput, tableTakeFetch_unfinished (s := { s with links := k }) hc hp, fetchPending, if_pos (Option.isSome_iff_ne_none.2 hf)]
    · refine unlessHeld_commandRow_ready hready (fun k => ?_) rfl
      rw [hput, tableTakeFetch_unfinished (s := { s with links := k }) hc hp, fetchPending, if_neg (by simp [hf])]
      rfl
    · refine unlessHeld_commandRow_ready hready (fun k => ?_) rfl
      rw [hput, tableTakeFetch_claimed (s := { s with links := k }) hc hp (by simp [hcl])]
    · refine unlessHeld_commandRow_ready hready (fun k => ?_) rfl
      rw [hput, tableTakeFetch_finished (s := { s with links := k }) hc hp (fun h => by rw [hcl h]; rfl), fetchQueued]
      simp only [beq_iff_eq]
      rfl

/-! ## JOURNAL-ACK -/

/-- The lowest acknowledged position once a link's record is written. -/
theorem Journal.ackDistance_setSub_some (j : Journal) (l : Link) (x : Subscriber) :
    (j.setSub l (some x)).ackDistance = match j.subs.get (otherLink l) with
      | none => j.distance x.acked
      | some y => min (j.distance x.acked) (j.distance y.acked) := by
  have same (n : Nat) : (j.setSub l (some x)).distance n = j.distance n := rfl
  cases l with
  | A => simp only [Journal.ackDistance, same]; cases h : j.subs.b <;> simp [Journal.setSub, PerLink.set, PerLink.get, otherLink, h]
  | B =>
    simp only [Journal.ackDistance, same]
    cases h : j.subs.a <;> simp [Journal.setSub, PerLink.set, PerLink.get, otherLink, h, min_comm]

section
variable {s : State} {l : Link} {upTo : BitVec 32} (hends : s.journalEndDue l = false)
include hends

theorem ackOwner_notSubscribed (h : s.journal.subs.get l = none) : ackOwner l upTo s = some (s, .refused .notSubscribed, .nothing) := by
  simp [ackOwner, hends, h]

variable {x : Subscriber} (hx : s.journal.subs.get l = some x)
include hx

theorem ackOwner_badValue (h : s.journal.mayAck x upTo.toNat = false) : ackOwner l upTo s = some (s, .refused .badValue, .nothing) := by
  simp [ackOwner, hends, hx, h]

theorem ackOwner_accepted (h : s.journal.mayAck x upTo.toNat = true) :
    let j := s.journal.acked l x upTo.toNat
    ackOwner l upTo s = some (s.modJournal fun _ => j.removeAcked s.journalNow, .ack upTo.toNat j.removable (j.removeAcked s.journalNow).oldest,
      .nothing) := by
  simp [ackOwner, hends, hx, h]

end

/-- Settles O37. -/
theorem ackRemovesWhatAllHaveAcknowledged : Obligations.AckRemovesWhatAllHaveAcknowledged := by
  unfold Obligations.AckRemovesWhatAllHaveAcknowledged
  intro l seq upTo s hready hends
  dsimp only
  refine ⟨fun h => ?_, fun x hx => ⟨fun hbad => ?_, fun hafter hbefore => ?_⟩⟩
  · exact unlessHeld_commandRow_ready hready (fun k => ackOwner_notSubscribed (s := { s with links := k }) hends h) rfl
  · have hno : s.journal.mayAck x upTo.toNat = false := by
      rw [Journal.mayAck, ← Bool.not_eq_true, Bool.and_eq_true, decide_eq_true_iff, decide_eq_true_iff]
      exact hbad
    exact unlessHeld_commandRow_ready hready (fun k => ackOwner_badValue (s := { s with links := k }) hends hx hno) rfl
  · have hyes : s.journal.mayAck x upTo.toNat = true := by simp [Journal.mayAck, hafter, hbefore]
    have hremoves : (s.journal.acked l x upTo.toNat).removable = min (match s.journal.subs.get (otherLink l) with
        | none => s.journal.distance upTo.toNat
        | some y => min (s.journal.distance upTo.toNat) (s.journal.distance y.acked)) s.journal.entries.length := by
      rw [Journal.removable, Journal.acked, Journal.ackDistance_setSub_some] <;> rfl
    refine unlessHeld_commandRow_ready hready (fun k => ?_) rfl
    rw [ackOwner_accepted (s := { s with links := k }) hends hx hyes]
    simp only [Journal.removeAcked_eq, hremoves]
    rfl

end Sys2Proof.Machine
end

section
/-! SUPPORT. GET (O21): identifiers, and every item's value as Table 11-9 lays it out. -/

-- One theorem at a time: the proofs of so long a text would each hold a thread.
set_option Elab.async false

namespace Sys2Proof.Machine

/-! ## Identifiers -/

theorem ItemId.single_eq_some {n : Nat} {x : ItemId} (h : ItemId.single n = some x) : n = identifierOf x := by
  unfold ItemId.single at h
  split at h <;> first | (obtain rfl := Option.some.inj h; rfl) | cases h

/-- Section 9.1's identifiers, read and written. -/
theorem ItemId.ofId_iff (id : BitVec 16) (x : ItemId) : ItemId.ofId id = some x ↔ id.toNat = identifierOf x := by
  constructor
  · intro h
    unfold ItemId.ofId at h
    dsimp only at h
    split_ifs at h with hwindow hprofile hchannel
    · obtain rfl := Option.some.inj h
      show id.toNat = 0x100 + (id.toNat - 0x100)
      omega
    · obtain rfl := Option.some.inj h
      show id.toNat = 0x200 + (id.toNat - 0x200)
      omega
    · obtain rfl := Option.some.inj h
      show id.toNat = 0x300 + (id.toNat - 0x300)
      omega
    · exact ItemId.single_eq_some h
  · intro h
    have named {n : Nat} (hn : id.toNat = n) (hlow : n < 65536) : id = BitVec.ofNat 16 n :=
      BitVec.eq_of_toNat_eq (by rw [hn, BitVec.toNat_ofNat, Nat.mod_eq_of_lt hlow])
    cases x with
    | slotWindow i =>
      have hi := i.isLt
      simp only [identifierOf] at h
      rw [ItemId.ofId, dif_pos (by omega)]
      simp [h]
    | profile p =>
      have hp := p.isLt
      simp only [identifierOf] at h
      rw [ItemId.ofId, dif_neg (by omega), dif_pos (by omega)]
      simp [h]
    | channel c =>
      have hc := c.isLt
      simp only [identifierOf] at h
      rw [ItemId.ofId, dif_neg (by omega), dif_neg (by omega), dif_pos (by omega)]
      simp [h]
    | linkRate m =>
      cases m
      · rw [named h (by decide)]
        rfl
      · rw [named h (by decide)]
        rfl
    | linkCounts m =>
      cases m
      · rw [named h (by decide)]
        rfl
      · rw [named h (by decide)]
        rfl
    | _ =>
      rw [named h (by decide)]
      rfl

/-! ## Values -/

theorem laidOut_names : laidOut nameFields (Config.vendorName ++ Config.familyName ++ Config.partName) :=
  laidOut_bytes (Config.vendorName ++ Config.familyName ++ Config.partName)

theorem laidOut_rate (r : Rate) : laidOut [num 4 (baudOf r)] (leBytes 4 r.baud) := by
  rw [baudOf_eq]
  exact laidOut_unsigned 4 _

theorem laidOut_stopReason (r : StopReason) : laidOut [num 1 (codeIn [.none, .stop, .limit] r)] (leBytes 1 r.code) := by
  cases r <;> exact laidOut_leBytes rfl

theorem laidOut_runState (t : Timebase) : laidOut
    [num 1 (bit t.running), num 1 (codeIn [.none, .stop, .limit] t.stopReason), num 1 (bit t.limitReached), num 2 t.period] t.bytes := by
  simp only [Timebase.bytes, List.append_assoc]
  exact laidOut_cons (laidOut_yesNo _) (laidOut_cons (laidOut_stopReason _) (laidOut_cons (laidOut_yesNo _) (laidOut_unsigned 2 _)))

/-- A row of unsigned fields. -/
theorem laidOut_numbers (fields : List (Nat × Nat)) : laidOut (fields.map fun x => num x.1 x.2) (fields.flatMap fun x => leBytes x.1 x.2) := by
  induction fields with
  | nil => rfl
  | cons x xs ih => exact laidOut_append (laidOut_unsigned x.1 x.2) ih

theorem laidOut_lineCounts (t : TriggerUnit) : laidOut
    [num 4 t.lineAccepted, num 4 t.lineRefused, num 4 t.lineIgnored, num 4 t.lineParity, num 4 t.lineFraming] t.lineBytes := by
  simpa [TriggerUnit.lineBytes] using laidOut_numbers [(4, t.lineAccepted), (4, t.lineRefused), (4, t.lineIgnored), (4, t.lineParity), (4, t.lineFraming)]

theorem laidOut_autoCounts (t : TriggerUnit) : laidOut
    [num 4 t.autoAccepted, num 4 t.autoMissed, num 4 t.autoRefused, num 4 t.autoIgnored, num 4 t.autoHeldOff,
      num 4 t.alertTransitions, num 2 t.holdoff, num 1 t.alertCountdown, num 1 (bit t.alert)] t.autoBytes :=
  laidOut_append (by simpa using laidOut_numbers [(4, t.autoAccepted), (4, t.autoMissed), (4, t.autoRefused), (4, t.autoIgnored), (4, t.autoHeldOff),
    (4, t.alertTransitions), (2, t.holdoff), (1, t.alertCountdown)]) (laidOut_yesNo t.alert)

theorem laidOut_linkCounts (k : LinkState) : laidOut (linkCountFields k) k.countBytes := by
  have h := laidOut_append (laidOut_numbers [(4, k.counts.good), (4, k.counts.crc), (4, k.counts.length), (4, k.counts.gap), (4, k.counts.framing),
      (4, k.counts.breaks), (4, k.counts.overruns), (4, k.counts.replays)])
    (laidOut_append (laidOut_yesNo k.session.isSome) (laidOut_numbers [(2, k.session.getD 0), (2, k.lastSession), (4, k.counts.ends.bye),
      (4, k.counts.ends.timeout), (4, k.counts.ends.lineBreak), (4, k.counts.ends.rehello), (4, k.counts.ends.reset), (4, k.rate.baud)]))
  cases hs : k.session <;> simpa [linkCountFields, LinkState.countBytes, hs, baudOf_eq] using h

theorem laidOut_subscriber (x : Option Subscriber) : laidOut (subscriberFields x) (subscriberBytes x) := by
  cases x with
  | none => exact laidOut_numbers [(4, 0), (4, 0)]
  | some x => simpa [subscriberFields, subscriberBytes] using laidOut_numbers [(4, x.acked), (4, x.cursor)]

theorem laidOut_journal (j : Journal) : laidOut (journalFields j) j.bytes := by
  have hnewest : laidOut [num 4 ((j.nextSeq : Int) - 1)] (leBytes 4 j.newest) := by
    refine laidOut_leBytes ?_
    simp only [Journal.newest, prevSeq, wrap32]
    push_cast
    omega
  have hset : laidOut [num 1 (bit j.subs.a.isSome + bit j.subs.b.isSome 2)]
      (leBytes 1 ((if j.subs.a.isSome then 1 else 0) + (if j.subs.b.isSome then 2 else 0))) := by
    cases j.subs.a.isSome <;> cases j.subs.b.isSome <;> exact laidOut_leBytes rfl
  have h := laidOut_append (laidOut_unsigned 4 j.oldest) (laidOut_append hnewest (laidOut_append (laidOut_numbers [(2, j.entries.length),
    (4, j.lossCount), (5, j.firstLost.getD 0), (5, j.lastLost.getD 0)]) (laidOut_append hset
    (laidOut_append (laidOut_subscriber j.subs.a) (laidOut_subscriber j.subs.b)))))
  cases he : j.entries <;> simpa [journalFields, Journal.bytes, Journal.oldest, he] using h

/-- A slot and serial, `$FF` and 0 when absent (R182). -/
theorem laidOut_slotSerial (x : Option (Fin 8 × Nat)) : laidOut (slotSerial x) (slotOrFF (x.map (·.1)) ++ leBytes 2 ((x.map (·.2)).getD 0)) := by
  cases x with
  | none => exact laidOut_cons (laidOut_byte rfl) (laidOut_unsigned 2 0)
  | some x => exact laidOut_cons (laidOut_unsigned 1 x.1.val) (laidOut_unsigned 2 x.2)

theorem laidOut_testState (i : Injector) : laidOut (testFields i) i.bytes := by
  have hrun (r : TestRun) : laidOut ([num 6 r.channels.toNat, num 2 r.label, num 5 r.first, num 5 r.last] ++ slotSerial r.trigger) r.bytes := by
    have h := laidOut_append (laidOut_bitmap r.channels) (laidOut_append (laidOut_numbers [(2, r.label), (5, r.first), (5, r.last)])
      (laidOut_slotSerial r.trigger))
    simpa [TestRun.bytes] using h
  cases i with
  | idle => exact laidOut_numbers [(1, 0), (6, 0), (2, 0), (5, 0), (5, 0), (1, 0xFF), (2, 0), (2, 0), (1, 0), (1, 0), (2, 0)]
  | delay r remaining =>
    have h := laidOut_append (laidOut_unsigned 1 1) (laidOut_append (hrun r) (laidOut_numbers [(2, remaining), (1, 0), (1, 0), (2, 0)]))
    simpa [testFields, Injector.bytes, Injector.code, leBytes] using h
  | injecting r pulse high remaining =>
    have h := laidOut_append (laidOut_unsigned 1 2) (laidOut_append (hrun r) (laidOut_append (laidOut_numbers [(2, 0), (1, pulse)])
      (laidOut_append (laidOut_yesNo high) (laidOut_unsigned 2 remaining))))
    simpa [testFields, Injector.bytes, Injector.code] using h

/-- Table 11-9's item values. -/
theorem laidOut_itemValue (s : State) (x : ItemId) : laidOut (itemFields s x) (s.itemValue x) := by
  cases x with
  | tickPeriod => exact laidOut_unsigned 2 _
  | lineEnable => exact laidOut_yesNo _
  | lineLag => exact laidOut_unsigned 1 _
  | autoSlots => exact laidOut_byte rfl
  | autoHoldoff => exact laidOut_unsigned 2 _
  | alertWidth => exact laidOut_unsigned 1 _
  | supplyMonitor => exact laidOut_unsigned 1 _
  | supplyLossTicks => exact laidOut_unsigned 1 _
  | supplyReturnTicks => exact laidOut_unsigned 2 _
  | sessionTimeout => exact laidOut_unsigned 2 _
  | linkRate l => cases l <;> exact laidOut_rate _
  | epochLabel => exact laidOut_bytes _
  | slotWindow i => exact laidOut_numbers [(2, s.items.windows[i].pre), (2, s.items.windows[i].post)]
  | profile p =>
    simpa [itemFields, State.itemValue, Items.value, Profile.bytes] using laidOut_numbers [(1, s.items.profiles[p].debounce), (1, s.items.profiles[p].chatterLimit),
      (2, s.items.profiles[p].chatterWindow), (2, s.items.profiles[p].chatterQuiet)]
  | channel c =>
    refine laidOut_cons (laidOut_leBytes ?_) (laidOut_unsigned 1 _)
    simp [bit]
  | ident =>
    have hcapacities : laidOut ([48, 6, 4, 8, 2, 4096, 128, 32, 1024, 56, 1024, 64, 16, 4, 4, 8].map fun n => num 2 n)
        (Config.capacities.flatMap (leBytes 2)) := laidOut_numbers (Config.capacities.map fun n => (2, n))
    have h := laidOut_append laidOut_names (laidOut_append (laidOut_unsigned 1 1) (laidOut_append (laidOut_unsigned 4 Config.unitNumber) hcapacities))
    rwa [← List.append_assoc, ← List.append_assoc, ← List.append_assoc, ← List.append_assoc] at h
  | bootEpoch => exact laidOut_unsigned 2 _
  | runState => exact laidOut_runState _
  | newestTick => exact laidOut_optTick _
  | runStartTick => exact laidOut_optTick _
  | poolFree => exact laidOut_unsigned 1 _
  | lineCounts => exact laidOut_lineCounts _
  | autoCounts => exact laidOut_autoCounts _
  | linkCounts l => exact laidOut_linkCounts _
  | journalState => exact laidOut_journal _
  | testState => exact laidOut_testState _

/-- Settles O21. -/
theorem getReportsAndChangesNothing : Obligations.GetReportsAndChangesNothing := by
  unfold Obligations.GetReportsAndChangesNothing
  refine ⟨ItemId.ofId_iff, fun l seq id s hready => ⟨fun hnone => ?_, fun x hx hend => ?_⟩⟩
  · have hid : ItemId.ofId id = none := by
      cases h : ItemId.ofId id with
      | none => rfl
      | some x => exact absurd ((ItemId.ofId_iff id x).1 h) (hnone x)
    exact unlessHeld_ready_answers (t := s) hready (by rw [getOwner, hid] <;> rfl) rfl
  · have hid := (ItemId.ofId_iff id x).2 hx
    have hvalue : (s.received l seq (.get id)).itemValue x = (s.modLink l LinkState.counted).itemValue x := by
      cases x with
      | linkCounts m => cases l <;> cases m <;> rfl
      | _ => rfl
    refine ⟨(s.modLink l LinkState.counted).itemValue x, ?_, laidOut_itemValue _ x⟩
    refine unlessHeld_ready_answers (t := s) hready ?_ rfl
    rw [getOwner, hid, ← hvalue]
    exact if_neg fun h => absurd ((hend h.1).symm.trans h.2) (by simp)

end Sys2Proof.Machine
end

section
/-! SUPPORT. Frames on the line (O16): a whole frame at a hunting receiver, the check of R178, and every body the part sends. -/

-- One theorem at a time: the proofs of so long a text would each hold a thread.
set_option Elab.async false

namespace Sys2Proof.Machine

/-! ## The frame check (R178) -/

/-- One shift of the check register, in the two forms. -/
theorem crcShift_eq (r : BitVec 16) : crcShift r = if r.msb then (r <<< 1) ^^^ 0x1021#16 else r <<< 1 := by
  rw [crcShift, BitVec.msb_eq_getLsbD_last]

theorem append_zeros (b : Byte) : b ++ 0#8 = BitVec.setWidth 16 b <<< 8 := by
  apply BitVec.eq_of_toNat_eq
  have hb := b.isLt
  rw [append_toNat, BitVec.toNat_shiftLeft, BitVec.toNat_setWidth, Nat.shiftLeft_eq]
  simp only [BitVec.toNat_ofNat]
  omega

theorem crcOf_eq_checkOf (bytes : List Byte) : crcOf bytes = checkOf bytes := by
  have hshift : (fun r : BitVec 16 => if r.msb then (r <<< 1) ^^^ 0x1021#16 else r <<< 1) = crcShift := funext fun r => (crcShift_eq r).symm
  have hbyte : (fun (r : BitVec 16) (b : Byte) => crcShift^[8] (r ^^^ (BitVec.setWidth 16 b <<< 8))) = crcByte := by
    funext r b
    rw [crcByte, append_zeros]
    rfl
  rw [crcOf, ← hbyte, ← hshift]
  rfl

theorem byteOf_high_append_low (x : BitVec 16) : byteOf x 1 ++ byteOf x 0 = x :=
  (extract_append_byteOf x (k := 0) (n := 8) (m := 8) rfl).trans BitVec.extractLsb'_eq_self

/-! ## A whole frame at the receiver (R165) -/

/-- A link whose receiver is within a frame, the line high. -/
def LinkState.within (k : LinkState) (r : Receiver) : LinkState := { k with receiver := r, stretch := .high }

theorem LinkState.takeCharacter_within {k : LinkState} {r r' : Receiver} {c : Byte} (h : r.take c = .go r') :
    (k.within r).takeCharacter c = k.within r' := by
  simp [LinkState.takeCharacter, LinkState.within, h, Received.go]

/-- The rest of a body: the receiver then awaits the check. -/
theorem LinkState.takeBody (k : LinkState) {len seq kind : Byte} {held rest : List Byte} (h : held.length + rest.length = len.toNat) :
    rest.foldl LinkState.takeCharacter (k.within (bodyOrCheck len seq kind held)) = k.within (.check len seq kind (held ++ rest) none) := by
  induction rest generalizing held with
  | nil =>
    have hfull : ¬ held.length < len.toNat := by simp at h; omega
    rw [bodyOrCheck, if_neg hfull, List.append_nil]
    rfl
  | cons c rest ih =>
    rw [List.length_cons] at h
    have hroom : held.length < len.toNat := by omega
    rw [bodyOrCheck, if_pos hroom, List.foldl_cons, LinkState.takeCharacter_within (r' := bodyOrCheck len seq kind (held ++ [c])) rfl,
      ih (by rw [List.length_append, List.length_singleton]; omega), List.append_assoc]
    rfl

/-- The characters of a whole frame whose length is at most 240. -/
theorem LinkState.takeFrame {k : LinkState} {len seq kind high low : Byte} {body : List Byte} (hlen : len.toNat = body.length) (hfits : body.length ≤ 240)
    (hhunt : k.receiver = .hunt) :
    (0xC3#8 :: len :: seq :: kind :: body ++ [high, low]).foldl LinkState.takeCharacter k =
      { k with
        stretch := .high
        complete := k.complete ++ [{ len := len, seq := seq, kind := kind, bytes := body, crcHigh := high, crcLow := low }] } := by
  have hsync : k.takeCharacter 0xC3#8 = k.within .awaitLen := by
    simp [LinkState.takeCharacter, LinkState.within, hhunt, Receiver.take, Received.go]
  have hlength : Receiver.awaitLen.take len = .go (.awaitSeq len) := if_pos (by omega)
  have hbody := k.takeBody (seq := seq) (kind := kind) (held := []) (rest := body) (by simpa using hlen.symm)
  rw [List.cons_append, List.cons_append, List.cons_append, List.cons_append, List.foldl_cons, hsync, List.foldl_cons,
    LinkState.takeCharacter_within hlength, List.foldl_cons, LinkState.takeCharacter_within (r' := .awaitKind len seq) rfl, List.foldl_cons,
    LinkState.takeCharacter_within (r' := bodyOrCheck len seq kind []) rfl, List.foldl_append, hbody, List.foldl_cons,
    LinkState.takeCharacter_within (r' := .check len seq kind ([] ++ body) (some high)) rfl]
  simp [LinkState.takeCharacter, LinkState.within, Receiver.take, hhunt]

theorem frameBytes_eq (seq kind : Byte) {body : List Byte} (h : body.length ≤ 240) : ∃ len high low : Byte,
    len.toNat = body.length ∧ frameBytes seq kind body = 0xC3#8 :: len :: seq :: kind :: body ++ [high, low] ∧
      crcOf (len :: seq :: kind :: body) = high ++ low := by
  refine ⟨BitVec.ofNat 8 body.length, _, _, ?_, rfl, (byteOf_high_append_low _).symm⟩
  rw [BitVec.toNat_ofNat, Nat.mod_eq_of_lt (by omega)]

/-! ## Codes (section 11.9) -/

theorem stateCode_eq (p : Phase) : stateCode p = p.code := by cases p <;> rfl

theorem sourceCode_eq (s : Source) : sourceCode s = s.code := by cases s <;> rfl

theorem linkNumber_eq (l : Link) : linkNumber l = linkCode l := by cases l <;> rfl

theorem maybeLink_eq (l : Option Link) : maybeLink l = linkCode3 l := by
  cases l with
  | none => rfl
  | some l => cases l <;> rfl

theorem holderOf_eq (p : Phase) : holderOf p = p.holder := by cases p <;> rfl

theorem resultCode_eq (r : Result) : resultCode r = r.code.toNat := by cases r <;> rfl

theorem recordCode_eq (k : RecordKind) : codeIn [.rise, .fall, .hold, .live] k = k.code := by cases k <;> rfl

theorem holdCode_eq (r : HoldReason) : codeIn [.chatter, .supply, .disabled] r = r.code := by cases r <;> rfl

theorem endCode_eq (s : EndStatus) : codeIn [.complete, .cut, .aborted] s = s.code := by cases s <;> rfl

theorem sessionEndCode_eq (r : SessionEndReason) : codeIn [.bye, .timeout, .lineBreak, .rehello, .reset] r = r.code := by cases r <;> rfl

theorem stopCode_eq (r : StopReason) : codeIn [.none, .stop, .limit] r = r.code := by cases r <;> rfl

theorem laidOut_flags (f : Flags) : laidOut [num 1 (flagsByte f)] [f.code] := by
  refine laidOut_byte ?_
  obtain ⟨a, b, c, d, e, g, h⟩ := f
  revert a b c d e g h
  decide

/-! ## Parts of bodies -/

/-- Zero bytes after the fields fill the detail. -/
theorem laidOut_padTo {fs : List (Nat × Int)} {bs : List Byte} (h : laidOut fs bs) {k n : Nat} (hk : k - bs.length = n) :
    laidOut (fs ++ [num n 0]) (padTo k bs) := hk ▸ laidOut_append h (laidOut_zeros _)

theorem padTo_full {k : Nat} {bs : List Byte} (h : bs.length = k) : padTo k bs = bs := by simp [padTo, h]

theorem laidOut_record (r : CaptureRecord) : laidOut (recordFields r) r.bytes := by
  simp only [recordFields, CaptureRecord.bytes, List.append_assoc, recordCode_eq]
  exact laidOut_cons (laidOut_unsigned 1 _) (laidOut_cons (laidOut_unsigned 1 _) (laidOut_signed 2 _))

/-- A distance in a LOSS entry, of a lost tick that may be later (R184; log 38). -/
theorem laidOut_distance (tick t : Nat) : laidOut [num 3 (min (max ((tick : Int) - t) 0) 0xFFFFFF)] (leBytes 3 (min (tick - t) 0xFFFFFF)) := by
  refine laidOut_leBytes (congrArg (· % _) ?_)
  omega

theorem laidOut_fault (r : FaultRecord) : laidOut (faultFields r) r.bytes := by
  have hrow (code : Nat) {detail : List (Nat × Int)} {bs : List Byte} (h : laidOut detail bs) :
      laidOut ([num 2 r.seq, num 1 code, num 5 r.report.tick] ++ detail) (leBytes 2 r.seq ++ leBytes 1 code ++ leBytes 5 r.report.tick ++ bs) := by
    simp only [List.append_assoc]
    exact laidOut_cons (laidOut_unsigned 2 _) (laidOut_cons (laidOut_unsigned 1 _) (laidOut_cons (laidOut_unsigned 5 _) h))
  have hslot (i : Fin 8) (serial : Nat) : laidOut [num 1 i.val, num 2 serial] (padTo 3 (leBytes 1 i.val ++ leBytes 2 serial)) := by
    rw [padTo_full (k := 3) rfl]
    exact laidOut_cons (laidOut_unsigned 1 i.val) (laidOut_unsigned 2 serial)
  unfold faultFields FaultRecord.bytes
  cases hk : r.report.kind with
  | rowCheck i serial => exact hrow 0 (hslot i serial)
  | poolExhausted i serial => exact hrow 2 (hslot i serial)
  | supplyLost g => exact hrow 1 (laidOut_padTo (laidOut_unsigned 1 g.val) rfl)
  | autoMissed c => exact hrow 3 (laidOut_padTo (laidOut_unsigned 1 c.val) rfl)

theorem laidOut_entry (e : Entry) : laidOut (entryFields e) e.bytes := by
  have hrow {code : Int} {head : Nat} {detail : List (Nat × Int)} {bs : List Byte} (hcode : code = head) (h : laidOut detail bs) :
      laidOut ([num 1 code, num 5 e.tick] ++ detail) (leBytes 1 head ++ leBytes 5 e.tick ++ bs) := by
    subst hcode
    simp only [List.append_assoc]
    exact laidOut_cons (laidOut_unsigned 1 _) (laidOut_cons (laidOut_unsigned 5 _) h)
  have hhead (code : Nat) : ((code : Int) + bit e.test 16) = ((code + (if e.test then 16 else 0) + 0 : Nat) : Int) := by cases e.test <;> simp [bit]
  unfold entryFields Entry.bytes Entry.head
  cases hk : e.kind with
  | rise c => exact hrow (hhead 0) (laidOut_padTo (laidOut_unsigned 1 c.val) rfl)
  | fall c => exact hrow (hhead 1) (laidOut_padTo (laidOut_unsigned 1 c.val) rfl)
  | hold c r =>
    have h := laidOut_padTo (k := 8) (laidOut_cons (laidOut_unsigned 1 c.val) (laidOut_unsigned 1 r.code)) rfl
    rw [← holdCode_eq] at h
    exact hrow (hhead 2) h
  | live c level ret =>
    refine hrow ?_ (laidOut_padTo (laidOut_unsigned 1 c.val) rfl)
    cases e.test <;> cases level <;> cases ret <;> rfl
  | supplyLost g => exact hrow (hhead 4) (laidOut_padTo (laidOut_unsigned 1 g.val) rfl)
  | supplyBack g => exact hrow (hhead 5) (laidOut_padTo (laidOut_unsigned 1 g.val) rfl)
  | runStart => exact hrow (hhead 6) (laidOut_zeros 8)
  | runStop r =>
    have h := laidOut_padTo (k := 8) (laidOut_unsigned 1 r.code) rfl
    rw [← stopCode_eq] at h
    exact hrow (hhead 7) h
  | trigger i serial source =>
    have h := laidOut_padTo (k := 8) (laidOut_cons (laidOut_unsigned 1 i.val) (laidOut_cons (laidOut_unsigned 2 serial) (laidOut_unsigned 1 source.code))) rfl
    rw [← sourceCode_eq] at h
    exact hrow (hhead 8) h
  | triggerRefused source i =>
    have h (b : List Byte) (n : Int) (hb : laidOut [num 1 n] b) (hl : b.length = 1) :=
      laidOut_padTo (k := 8) (n := 6) (laidOut_cons hb (laidOut_unsigned 1 source.code)) (by simp [hl])
    rw [← sourceCode_eq] at h
    cases i with
    | none => exact hrow (hhead 9) (h _ _ (laidOut_byte rfl) rfl)
    | some i => exact hrow (hhead 9) (h _ _ (laidOut_unsigned 1 i.val) rfl)
  | loss count first last =>
    have h := laidOut_cons (laidOut_unsigned 2 (min count 65535)) (laidOut_cons (laidOut_distance e.tick first) (laidOut_distance e.tick last))
    have hfull := padTo_full (k := 8) (bs := EntryKind.detail e.tick (.loss count first last)) (by simp [EntryKind.detail])
    rw [hfull]
    refine hrow (hhead 10) ?_
    simpa [EntryKind.detail] using h

/-- Fields that are absent are zero. -/
theorem laidOut_report (r : SlotReport) : laidOut (reportFields r) r.bytes := by
  unfold reportFields SlotReport.bytes
  cases hc : r.capture with
  | none => exact laidOut_padTo (laidOut_unsigned 1 r.slot.val) rfl
  | some c =>
    have hstate : laidOut [num 1 (r.slot.val + 8 * stateCode c.phase + bit c.initial.isSome 64)]
        (leBytes 1 (r.slot.val + 8 * c.phase.code + (if c.initial.isSome then 64 else 0))) := by
      refine laidOut_leBytes (congrArg (· % _) ?_)
      rw [stateCode_eq]
      cases c.initial <;> simp [bit]
    have hclaim : (c.fetch.map (·.claim)).getD false = c.fetch.any (·.claim) := by cases c.fetch <;> rfl
    have hsource : laidOut
        [num 1 (sourceCode c.source + 8 * maybeLink (holderOf c.phase) + 32 * maybeLink (c.fetch.map (·.link)) + bit (c.fetch.any (·.claim)) 128)]
        (leBytes 1 (c.source.code + 8 * linkCode3 c.phase.holder + 32 * linkCode3 (c.fetch.map (·.link))
          + (if (c.fetch.map (·.claim)).getD false then 128 else 0))) := by
      refine laidOut_leBytes (congrArg (· % _) ?_)
      rw [hclaim, sourceCode_eq, maybeLink_eq, maybeLink_eq, holderOf_eq]
      cases c.fetch.any (·.claim) <;> simp [bit]
    have hfrom : laidOut [num 1 (match c.fetch with
        | none => 0
        | some f => (f.fromPart : Int))] (leBytes 1 ((c.fetch.map (·.fromPart)).getD 0)) := by
      cases c.fetch <;> exact laidOut_unsigned 1 _
    simp only [List.append_assoc]
    exact laidOut_cons hstate (laidOut_cons (laidOut_unsigned 2 _) (laidOut_cons hsource (laidOut_cons hfrom (laidOut_cons (laidOut_unsigned 1 _)
      (laidOut_cons (laidOut_unsigned 2 _) (laidOut_cons (laidOut_signed 6 _) (laidOut_cons (laidOut_unsigned 3 _) (laidOut_cons (laidOut_signed 3 _)
      (laidOut_cons (laidOut_signed 3 _) (laidOut_cons (laidOut_flags _) (laidOut_cons (laidOut_unsigned 2 _) (laidOut_unsigned 1 _))))))))))))

theorem laidOut_engine (x : Option (Fin 8 × Nat)) : laidOut (slotSerial x) (engineBytes x) := by
  cases x with
  | none => exact laidOut_cons (laidOut_byte rfl) (laidOut_unsigned 2 0)
  | some x => exact laidOut_cons (laidOut_unsigned 1 x.1.val) (laidOut_unsigned 2 x.2)

theorem laidOut_phase (p : Phase) : laidOut [num 1 (stateCode p)] (leBytes 1 p.code) := by
  rw [stateCode_eq]
  exact laidOut_unsigned 1 _

theorem laidOut_source (s : Source) : laidOut [num 1 (sourceCode s)] (leBytes 1 s.code) := by
  rw [sourceCode_eq]
  exact laidOut_unsigned 1 _

theorem laidOut_link (l : Link) : laidOut [num 1 (linkNumber l)] (leBytes 1 (linkCode l)) := by
  rw [linkNumber_eq]
  exact laidOut_unsigned 1 _

/-! ## Bodies (R182, R183) -/

theorem replyFields_result (b : ReplyBody) : (replyFields b).1 = b.result := by
  cases b with
  | snapshot v => cases v <;> rfl
  | test first last given => cases given <;> rfl
  | _ => rfl

/-- A slot, its serial and three ticks, as TRIGGER and TEST give them. -/
theorem laidOut_trigger (i : Fin 8) (serial : Nat) (r s e : Int) : laidOut [num 1 i.val, num 2 serial, num 6 r, num 6 s, num 6 e]
    (leBytes 1 i.val ++ leBytes 2 serial ++ leSigned 6 r ++ leSigned 6 s ++ leSigned 6 e) := by
  simp only [List.append_assoc]
  exact laidOut_cons (laidOut_unsigned 1 _) (laidOut_cons (laidOut_unsigned 2 _) (laidOut_cons (laidOut_signed 6 _)
    (laidOut_cons (laidOut_signed 6 _) (laidOut_signed 6 _))))

theorem laidOut_reply (b : ReplyBody) : laidOut (replyFields b).2 b.fields := by
  cases b with
  | refused code => rfl
  | hello l boot number label =>
    have h := laidOut_append laidOut_names (laidOut_append (laidOut_unsigned 1 1) (laidOut_append (laidOut_link l)
      (laidOut_append (laidOut_numbers [(2, boot), (2, number)]) (laidOut_bytes label.toList))))
    simpa [replyFields, ReplyBody.fields, Config.revision] using h
  | session n => exact laidOut_unsigned 2 n
  | item id value => exact laidOut_append (laidOut_unsigned 2 id.toNat) (laidOut_bytes value)
  | deviceReset boot => exact laidOut_unsigned 2 boot
  | start t => exact laidOut_unsigned 5 t
  | stop t => exact laidOut_optTick t
  | snapshot v =>
    cases v with
    | none => exact laidOut_optTick none
    | some v =>
      have h := laidOut_append (laidOut_optTick (some v.tick)) (laidOut_append (laidOut_bitmap v.levels) (laidOut_append (laidOut_bitmap v.raws)
        (laidOut_append (laidOut_bitmap v.chatter) (laidOut_append (laidOut_bitmap v.supply) (laidOut_bitmap v.disabled)))))
      simpa [replyFields, ReplyBody.fields] using h
  | trigger i serial r s e => exact laidOut_trigger i serial r s e
  | abort i serial was =>
    exact laidOut_append (laidOut_cons (laidOut_unsigned 1 i.val) (laidOut_unsigned 2 serial)) (laidOut_phase was)
  | slotStatus newest nextSerial queue e0 e1 reports =>
    have hqueue : laidOut (queue.map fun i => num 1 i.val) (queue.map fun i => BitVec.ofNat 8 i.val) :=
      laidOut_map (fun i => laidOut_unsigned 1 i.val) queue
    have hfill : laidOut (List.replicate (8 - queue.length) (num 1 0xFF)) (List.replicate (8 - queue.length) 0xFF#8) :=
      laidOut_replicate (laidOut_byte (n := 0xFF) (b := 0xFF#8) rfl) _
    exact laidOut_append (laidOut_append (laidOut_append (laidOut_append (laidOut_append (laidOut_append (laidOut_optTick newest)
      (laidOut_unsigned 2 nextSerial)) hqueue) hfill) (laidOut_engine e0)) (laidOut_engine e1)) (laidOut_flatMap laidOut_report reports)
  | fetchPending i serial phase =>
    exact laidOut_append (laidOut_append (laidOut_cons (laidOut_unsigned 1 i.val) (laidOut_unsigned 2 serial)) (laidOut_phase phase))
      (laidOut_numbers [(2, 0), (1, 0), (1, 0)])
  | fetchQueued i serial phase records parts ahead =>
    have h := laidOut_append (laidOut_append (laidOut_cons (laidOut_unsigned 1 i.val) (laidOut_unsigned 2 serial)) (laidOut_phase phase))
      (laidOut_numbers [(2, records), (1, parts), (1, ahead)])
    simpa [replyFields, ReplyBody.fields] using h
  | release i serial blocks => simpa [replyFields, ReplyBody.fields] using laidOut_numbers [(1, i.val), (2, serial), (1, blocks)]
  | subscribe acked cursor oldest newest held loss =>
    simpa [replyFields, ReplyBody.fields] using laidOut_numbers [(4, acked), (4, cursor), (4, oldest), (4, newest), (2, held), (4, loss)]
  | ack acked removed oldest => simpa [replyFields, ReplyBody.fields] using laidOut_numbers [(4, acked), (2, removed), (4, oldest)]
  | rewind cursor => exact laidOut_unsigned 4 cursor
  | unsubscribe removed => exact laidOut_unsigned 2 removed
  | test first last given =>
    cases given with
    | none =>
      exact laidOut_append (laidOut_cons (laidOut_unsigned 5 first) (laidOut_unsigned 5 last))
        (laidOut_cons (laidOut_byte rfl) (laidOut_numbers [(2, 0), (6, 0), (6, 0), (6, 0)]))
    | some x =>
      exact laidOut_append (laidOut_cons (laidOut_unsigned 5 first) (laidOut_unsigned 5 last))
        (laidOut_trigger x.1 x.2.1 x.2.2.1 x.2.2.2.1 x.2.2.2.2)
  | testCancel was => cases was <;> exact laidOut_leBytes rfl
  | faultsRead records lost next =>
    have h := laidOut_append (laidOut_numbers [(1, records.length), (1, lost), (2, next)]) (laidOut_flatMap laidOut_fault records)
    simpa [replyFields, ReplyBody.fields] using h
  | faultsClear removed left lost => simpa [replyFields, ReplyBody.fields] using laidOut_numbers [(1, removed), (1, left), (1, lost)]

theorem laidOut_notice (n : Notices) : laidOut (bodyFields (.notice n)).2 n.bytes := by
  have hkinds : laidOut [num 1 (bit n.slotReady.isSome + bit n.alert.isSome 2 + bit n.fault 4 + bit n.rxError 8 + bit n.overrun 16)]
      (leBytes 1 n.kinds) := by
    refine laidOut_leBytes (congrArg (· % _) ?_)
    unfold Notices.kinds
    push_cast [bit]
    rfl
  refine laidOut_append (laidOut_append hkinds ?_) ?_
  · cases n.slotReady with
    | none => rfl
    | some slots => exact laidOut_byte rfl
  · cases n.alert with
    | none => rfl
    | some a => simpa using laidOut_numbers [(2, a.count), (1, a.channel.val), (5, a.tick)]

theorem laidOut_head (h : Head) : laidOut (headFields h) h.bytes := by
  have hholder : laidOut [num 1 (match holderOf h.capture.phase with
      | none => 0xFF
      | some l => linkNumber l)] (match h.capture.phase.holder with
      | none => [0xFF#8]
      | some l => leBytes 1 (linkCode l)) := by
    rw [holderOf_eq]
    cases h.capture.phase.holder with
    | none => exact laidOut_byte rfl
    | some l => exact laidOut_link l
  have hinitial : laidOut (match h.capture.initial with
      | none => [num 6 0, num 6 0]
      | some x => [num 6 x.levels.toNat, num 6 x.held.toNat])
      (bitmapBytes ((h.capture.initial.map (·.levels)).getD 0) ++ bitmapBytes ((h.capture.initial.map (·.held)).getD 0)) := by
    cases h.capture.initial with
    | none => exact laidOut_cons (laidOut_bitmap 0) (laidOut_bitmap 0)
    | some x => exact laidOut_cons (laidOut_bitmap _) (laidOut_bitmap _)
  have hfirst : laidOut [num 1 h.slot.val, num 2 h.capture.serial, num 1 (sourceCode h.capture.source), num 2 h.capture.label, num 6 h.capture.ref,
      num 2 h.capture.pre, num 2 h.capture.post, num 6 (h.capture.ref - h.capture.pre), num 6 (h.capture.ref + h.capture.post),
      num 6 h.capture.effStart, num 6 h.capture.effEnd, num 1 (flagsByte h.capture.flags), num 2 h.capture.records.length, num 1 h.partCount,
      num 1 h.fromPart, num 1 (stateCode h.capture.phase)]
      (leBytes 1 h.slot.val ++ leBytes 2 h.capture.serial ++ leBytes 1 h.capture.source.code ++ leBytes 2 h.capture.label ++ leSigned 6 h.capture.ref
        ++ leBytes 2 h.capture.pre ++ leBytes 2 h.capture.post ++ leSigned 6 (h.capture.ref - h.capture.pre)
        ++ leSigned 6 (h.capture.ref + h.capture.post) ++ leSigned 6 h.capture.effStart ++ leSigned 6 h.capture.effEnd ++ [h.capture.flags.code]
        ++ leBytes 2 h.capture.records.length ++ leBytes 1 h.partCount ++ leBytes 1 h.fromPart ++ leBytes 1 h.capture.phase.code) := by
    simp only [List.append_assoc]
    exact laidOut_cons (laidOut_unsigned 1 _) (laidOut_cons (laidOut_unsigned 2 _) (laidOut_cons (laidOut_source _) (laidOut_cons (laidOut_unsigned 2 _)
      (laidOut_cons (laidOut_signed 6 _) (laidOut_cons (laidOut_unsigned 2 _) (laidOut_cons (laidOut_unsigned 2 _) (laidOut_cons (laidOut_signed 6 _)
      (laidOut_cons (laidOut_signed 6 _) (laidOut_cons (laidOut_signed 6 _) (laidOut_cons (laidOut_signed 6 _) (laidOut_cons (laidOut_flags _)
      (laidOut_cons (laidOut_unsigned 2 _) (laidOut_cons (laidOut_unsigned 1 _) (laidOut_cons (laidOut_unsigned 1 _) (laidOut_phase _)))))))))))))))
  have hall := laidOut_append (laidOut_append (laidOut_append (laidOut_append (laidOut_append hfirst hholder) (laidOut_yesNo h.capture.initial.isSome))
    hinitial) (laidOut_unsigned 2 h.bootEpoch)) (laidOut_bytes h.label.toList)
  rw [← List.append_assoc] at hall
  exact hall

theorem laidOut_body (b : FrameBody) : laidOut (bodyFields b).2 b.bytes := by
  cases b with
  | reply r =>
    refine laidOut_cons (bs := [r.kind]) (laidOut_byte rfl) (laidOut_cons (bs := [r.body.result.code]) (laidOut_byte ?_) (laidOut_reply r.body))
    rw [replyFields_result, resultCode_eq]
  | notice n => exact laidOut_notice n
  | sessionEnd reason n =>
    refine laidOut_cons ?_ (laidOut_unsigned 2 n)
    rw [sessionEndCode_eq]
    exact laidOut_unsigned 1 _
  | captureHead h => exact laidOut_head h
  | capturePart i serial part records =>
    have h := laidOut_append (laidOut_numbers [(1, i.val), (2, serial), (1, part), (1, records.length)]) (laidOut_flatMap laidOut_record records)
    simpa [bodyFields, FrameBody.bytes] using h
  | captureEnd i serial status sent =>
    have h := laidOut_append (laidOut_numbers [(1, i.val), (2, serial), (1, status.code), (1, sent)]) laidOut_nil
    simpa [bodyFields, FrameBody.bytes, endCode_eq] using h
  | journalData first entries => exact laidOut_append (laidOut_unsigned 4 first) (laidOut_flatMap laidOut_entry entries)

/-- Settles O16. -/
theorem framesAreReceivedAsSent : Obligations.FramesAreReceivedAsSent := by
  unfold Obligations.FramesAreReceivedAsSent
  refine ⟨fun seq kind body k hlen hhunt => ?_, fun seq kind body hlen => ?_, fun b => ⟨by cases b <;> rfl, laidOut_body b⟩⟩
  · obtain ⟨len, high, low, hl, hbytes, hcheck⟩ := frameBytes_eq seq kind hlen
    refine ⟨{ len := len, seq := seq, kind := kind, bytes := body, crcHigh := high, crcLow := low }, rfl, rfl, rfl, ?_, ?_⟩
    · simp [RawFrame.checks, hcheck]
    · rw [hbytes, LinkState.takeFrame hl hlen hhunt]
  · obtain ⟨len, high, low, hl, hbytes, hcheck⟩ := frameBytes_eq seq kind hlen
    exact ⟨len, high, low, hl, hbytes, by rw [← crcOf_eq_checkOf, hcheck]⟩

end Sys2Proof.Machine
end

section
/-! SUPPORT. The ring (O44), the journal's entries (O45), the trigger line (O47) and the slot table's samples and stops (O48). -/

-- One theorem at a time: the proofs of so long a text would each hold a thread.
set_option Elab.async false

namespace Sys2Proof.Machine

/-! ## The ring -/

theorem ringReaches_iff {rows : List Row} {stop : Int} :
    ringReaches rows stop = true ↔ ∃ newest, rows.getLast? = some newest ∧ stop ≤ (newest.tick : Int) := by
  unfold ringReaches
  cases rows.getLast? <;> simp

theorem ringReaches_append (rows : List Row) (r : Row) (stop : Int) : ringReaches (rows ++ [r]) stop = decide (stop ≤ (r.tick : Int)) := by
  simp [ringReaches]

theorem ReadRequest.take_unfixed {q : ReadRequest} (h : q.answer = none) (rows : List Row) :
    q.take rows = if ringReaches rows q.stop then some (ringAnswer rows q.start q.stop) else none := by
  simp [ReadRequest.take, h]

/-- A row's tick is given as it stands. -/
theorem ringAnswer_ticks (rows : List Row) (start stop : Int) : (ringAnswer rows start stop).rows.map (·.tick) =
    (rows.map (·.tick)).filter fun t : Nat => decide (start ≤ (t : Int) ∧ (t : Int) ≤ stop) := by
  have hgiven : (fun r : Row => r.given.tick) = fun r => r.tick := rfl
  simp only [ringAnswer, List.map_map, List.filter_map, Function.comp_def, Bool.decide_and, hgiven]

theorem mem_ringAnswer {rows : List Row} {start stop : Int} {x : ReadRow} : x ∈ (ringAnswer rows start stop).rows ↔
    ∃ r ∈ rows, start ≤ (r.tick : Int) ∧ (r.tick : Int) ≤ stop ∧ x.tick = r.tick
      ∧ x.content = if r.damaged then none else some ({ levels := r.levels, held := r.held }, r.test) := by
  have hgiven (r : Row) : r.given = x ↔
      x.tick = r.tick ∧ x.content = if r.damaged then none else some ({ levels := r.levels, held := r.held }, r.test) := by
    constructor
    · rintro rfl
      exact ⟨rfl, rfl⟩
    · rintro ⟨ht, hc⟩
      obtain ⟨tick, content⟩ := x
      obtain rfl : tick = r.tick := ht
      exact congrArg (ReadRow.mk r.tick) hc.symm
  simp only [ringAnswer, List.mem_map, List.mem_filter, Bool.and_eq_true, decide_eq_true_eq, hgiven, and_assoc]

/-- R39: the oldest available tick. -/
theorem RingLaw.oldest_eq {t : Timebase} {ring : List Row} {ringIn : List Conditioned} {start : Nat} {oldest newest : Row} (h : RingLaw t ring ringIn)
    (hstart : t.runStart = some start) (hold : ring.head? = some oldest) (hnew : ring.getLast? = some newest) :
    oldest.tick = max start (newest.tick - 4095) := by
  obtain ⟨before, rfl⟩ := List.getLast?_eq_some_iff.1 hnew
  have hhead (d : Nat) : (sampleTicks (before ++ [newest]) ringIn).headD d = oldest.tick := by
    cases before with
    | nil =>
      obtain rfl : newest = oldest := by simpa using hold
      rfl
    | cons r rest =>
      obtain rfl : r = oldest := by simpa using hold
      rfl
  have hlast : (sampleTicks (before ++ [newest]) ringIn).drop before.length = newest.tick :: ringIn.map (·.tick) := by
    simp [sampleTicks]
  have hrun := runsTo_headD_drop h.consecutive before.length (by simp [sampleTicks])
  have hiterate (n m : Nat) : (· + 1)^[n] m = m + n := by
    induction n generalizing m with
    | zero => rfl
    | succ n ih => rw [Function.iterate_succ_apply, ih]; omega
  rw [hlast, hhead, hiterate] at hrun
  have hnewest : newest.tick = oldest.tick + before.length := hrun
  have hsize := h.size
  rw [List.length_append, List.length_singleton] at hsize
  have hmem : oldest.tick ∈ sampleTicks (before ++ [newest]) ringIn := by
    rw [sampleTicks, List.mem_append]
    exact .inl (List.mem_map_of_mem (List.mem_of_mem_head? hold))
  have hin := h.inRun start hstart _ hmem
  by_cases hroom : before.length + 1 < 4096
  · have hbegins := h.begins (by simpa using hroom) start hstart
    rw [hhead] at hbegins
    omega
  · omega

theorem ReadRequest.atAppend_eq (q : ReadRequest) (before rows : List Row) (r : Row) : q.atAppend before (rows ++ [r]) =
    if q.answer = none ∧ ringReaches before q.stop = false ∧ q.stop ≤ (r.tick : Int) then { q with answer := some (ringAnswer (rows ++ [r]) q.start q.stop) }
    else q := by
  unfold ReadRequest.atAppend
  cases ha : q.answer with
  | some a => simp
  | none => simp [ringReaches_append]

/-- Settles O44. -/
theorem ringAppendsAndRowsAreDamaged : Obligations.RingAppendsAndRowsAreDamaged := by
  unfold Obligations.RingAppendsAndRowsAreDamaged
  refine ⟨Row.damaged_iff, fun rows q => ⟨ringReaches_iff, fun a h => ReadRequest.take_of_fixed h rows, fun h => ReadRequest.take_unfixed h rows⟩,
    fun rows start stop => ⟨?_, ringAnswer_ticks rows start stop⟩, fun s start oldest newest h => h.oldest_eq, fun s hpin =>
    ⟨fun h => ?_, fun c rest h => ⟨Row.ofSample c, rfl, rfl, rfl, rfl, ?_, rfl, ?_⟩, fun rows start stop x => mem_ringAnswer,
      fun tick levels held test syndrome => ⟨fun r => if r.tick = tick then r.strike levels held test syndrome else r, ?_, fun r hr => ?_,
        fun r ht hd hs => ?_⟩⟩⟩
  · rintro oldest rest rfl
    rfl
  · rw [show exec .ringAppend s = unlessHeld ringAppend s from rfl, unlessHeld_free s hpin, ringAppend, h]
  · exact Nat.xor_zero _
  · have hfix (rows : List Row) (q : ReadRequest) := ReadRequest.atAppend_eq q s.ring rows (Row.ofSample c)
    rw [show exec .ringAppend s = unlessHeld ringAppend s from rfl, unlessHeld_free s hpin, ringAppend, h]
    simp only [appendRow, hfix, List.drop_one]
    rfl
  · exact unlessHeld_free s hpin
  · dsimp only
    split
    · rename_i ht
      obtain hne | hd | hs := hr
      · exact absurd ht hne
      · rw [Row.strike, hd]
        rfl
      · rw [Row.strike, hs]
        simp
    · rfl
  · have hstrike : r.strike levels held test syndrome = { r with levels := levels, held := held, test := test, syndrome := syndrome } := by
      simp [Row.strike, hd, hs]
    have hdamaged : (r.strike levels held test syndrome).damaged = true := by simp [Row.strike_damaged, hs]
    dsimp only
    rw [if_pos ht]
    refine ⟨hdamaged, by rw [Row.strike_tick, ht], by rw [hstrike], by rw [hstrike], by rw [hstrike], ?_⟩
    have hcheck := (Row.damaged_iff _).1 hdamaged
    rw [Row.code, Row.strike_tick, ht, hstrike] at hcheck
    rw [hstrike]
    exact hcheck

/-! ## The journal's entries -/

/-- An entry made, the oldest leaving first when 1024 are held. -/
theorem Journal.makeRoom_push (j : Journal) (e : NewEntry) : j.makeRoom.push e =
    { j with
      entries := (if j.entries.length < 1024 then j.entries else j.entries.tail) ++ [{ seq := j.nextSeq, kind := e.kind, tick := e.tick, test := e.test }]
      nextSeq := nextSeq32 j.nextSeq } := by
  unfold Journal.makeRoom
  split
  · rename_i h
    rw [if_pos (show j.entries.length < 1024 from h)]
    rfl
  · rename_i h
    rw [if_neg (show ¬ j.entries.length < 1024 from h), List.drop_one]
    rfl

theorem Journal.append_room {j : Journal} {e : NewEntry} (hsub : j.subscribed = true) (h : j.entries.length < 1024) (now : Nat) :
    j.append now e = j.makeRoom.push e := by
  have hroom : j.entries.length < Config.journalEntries := h
  rw [Journal.append, if_pos hsub, Journal.subscribedAppend, if_pos hroom, Journal.makeRoom, if_pos hroom]

theorem Journal.append_full {j : Journal} {e : NewEntry} (hsub : j.subscribed = true) (h : 1024 ≤ j.entries.length) (now : Nat) :
    j.append now e = j.lose e.tick := by
  have hfull : ¬ j.entries.length < Config.journalEntries := Nat.not_lt.2 h
  rw [Journal.append, if_pos hsub, Journal.subscribedAppend, if_neg hfull]

theorem Journal.append_history {j : Journal} {e : NewEntry} (hsub : j.subscribed = false) (now : Nat) :
    j.append now e = (j.settleLoss now).makeRoom.push e := by
  rw [Journal.append, if_neg (by simp [hsub]), Journal.historyAppend]

theorem Conditioned.entries_eq (c : Conditioned) (kindOf : Change → EntryKind) (h : ∀ x : Change, x.entryKind = kindOf x) : c.entries =
    c.events.map (fun v => { kind := if v.lost then .supplyLost v.group else .supplyBack v.group, tick := c.tick, test := false }) ++
      (c.changes.filter (·.journal)).map (fun x => { kind := kindOf x, tick := c.tick, test := x.test }) := by
  have hchange : Change.entry c.tick = fun x => { kind := kindOf x, tick := c.tick, test := x.test } := by
    funext x
    rw [Change.entry, h]
  rw [Conditioned.entries, hchange]
  rfl

/-- Settles O45. -/
theorem journalEntersWhatItTakes : Obligations.JournalEntersWhatItTakes := by
  unfold Obligations.JournalEntersWhatItTakes
  refine ⟨fun j now e => ⟨fun hsub h => ?_, fun hsub h => ?_, fun hsub hloss => ?_, fun hsub hloss => ?_⟩, fun s hpin => ⟨fun c rest h => ?_,
    fun tick rest h => ?_, fun reason tick rest h => ?_, fun x rest h => ?_, fun x rest h => ?_⟩⟩
  · rw [Journal.append_room hsub h, Journal.makeRoom_push]
  · rw [Journal.append_full hsub h]
    rfl
  · rw [Journal.append_history hsub, Journal.settleLoss, if_pos hloss, Journal.makeRoom_push]
  · rw [Journal.append_history hsub, Journal.settleLoss, if_neg hloss, Journal.makeRoom_push, Journal.makeRoom_push]
    rfl
  · have hrow : exec .journalTakeSample s = .next (journalTakeSample s) := unlessHeld_free s hpin
    rw [hrow, journalTakeSample, h]
    refine congrArg _ ?_
    dsimp only
    rw [Conditioned.entries_eq c _ fun x => rfl]
    simp only [State.dropJournalIn, State.modWires, State.modJournal, h, List.tail_cons]
    rfl
  · have hrow : exec .journalRunStart s = .next (journalRunStart s) := unlessHeld_free s hpin
    rw [hrow, journalRunStart, h]
    simp only [State.dropJournalIn, State.modWires, State.modJournal, h, List.tail_cons]
  · have hrow : exec .journalRunStop s = .next (journalRunStop s) := unlessHeld_free s hpin
    rw [hrow, journalRunStop, h]
    simp only [State.dropJournalIn, State.modWires, State.modJournal, h, List.tail_cons]
  · have hrow : exec (.journalTakeTriggerEntry .triggerUnit) s = .next (journalTakeTriggerEntry .triggerUnit s) := unlessHeld_free s hpin
    rw [hrow, journalTakeTriggerEntry, State.popTriggerEntry, h]
    rfl
  · have hrow : exec (.journalTakeTriggerEntry .injector) s = .next (journalTakeTriggerEntry .injector s) := unlessHeld_free s hpin
    rw [hrow, journalTakeTriggerEntry, State.popTriggerEntry, h]
    rfl

/-! ## The trigger line -/

/-- The parity bit by bit is the parity of the number of ones. -/
theorem foldl_xor_eq_odd (p : Nat → Bool) (xs : List Nat) (b : Bool) :
    xs.foldl (fun odd k => odd ^^ p k) b = (b ^^ decide ((xs.filter p).length % 2 = 1)) := by
  induction xs generalizing b with
  | nil => simp
  | cons x xs ih =>
    rw [List.foldl_cons, ih, List.filter_cons]
    cases hp : p x
    · simp
    · simp only [if_true, List.length_cons, Bool.xor_true]
      have hodd : decide (((xs.filter p).length + 1) % 2 = 1) = !decide ((xs.filter p).length % 2 = 1) := by
        rw [← decide_not, decide_eq_decide]
        omega
      rw [hodd]
      cases b <;> simp

theorem wordParityGood_iff (bits : BitVec 13) :
    wordParityGood bits = true ↔ ((List.range 12).filter fun k => bits.getLsbD k).length % 2 = 1 := by
  rw [wordParityGood, foldl_xor_eq_odd]
  simp

theorem lineOffer_eq (bits : BitVec 13) : lineOffer bits =
    { source := .line, request := .numbered (bits.toNat % 8), reference := .lagged, pre := none, post := none, label := bits.toNat / 8 % 256,
      test := false } := by
  have hslot : (wordSlot bits).val = bits.toNat % 8 := by
    simp [wordSlot]
  have hlabel : wordLabel bits = bits.toNat / 8 % 256 := by
    simp [wordLabel, Nat.shiftRight_eq_div_pow]
  rw [lineOffer, hslot, hlabel]

/-- An offer does not see what is on its way. -/
theorem takeOffer_setWires (o : Offer) (s : State) (w : Wires) :
    takeOffer o { s with wires := w } = ({ (takeOffer o s).1 with wires := w }, (takeOffer o s).2) := by
  have hjudge : State.judgeOffer { s with wires := w } o = s.judgeOffer o := rfl
  cases h : s.judgeOffer o with
  | error e =>
    obtain ⟨code, i⟩ := e
    rw [takeOffer_refused h, takeOffer_refused (hjudge.trans h)]
  | ok j =>
    rw [takeOffer_accepted h, takeOffer_accepted (hjudge.trans h)]
    rfl

theorem lineAnswered_refused {o : Offer} {code : Result} {at' : Option (Fin 8)} {s : State} (h : code ≠ .notRunning) :
    lineAnswered o (.refused code at') s =
      (s.modTrig fun t => { t with lineRefused := wrap32 (t.lineRefused + 1) }).triggerEntry (.triggerRefused .line o.namedSlot) false := by
  cases code <;> first | rfl | exact absurd rfl h

/-- Settles O47. -/
theorem triggerLineOffersItsWords : Obligations.TriggerLineOffersItsWords := by
  unfold Obligations.TriggerLineOffersItsWords
  refine fun s hpin => ⟨fun stillLow wasHigh => ?_, fun bits => ?_, fun h => ?_, fun o rest h => ?_, fun h => ?_, fun o a rest h => ?_⟩
  · have hrow : exec (.lineStartBit stillLow wasHigh) s = .next (s.modTrig fun t => t.startBit stillLow wasHigh) :=
      unlessHeld_free (f := fun s => s.modTrig fun t => t.startBit stillLow wasHigh) s hpin
    rw [hrow]
    refine ⟨fun h => ?_, fun h hfree => ?_, fun h hawait hhigh => ?_⟩
    · simp [State.modTrig, TriggerUnit.startBit, h]
    · have hblocked : (s.trig.awaitHigh && !wasHigh) = false := by
        obtain h | h := hfree <;> simp [h]
      simp [State.modTrig, TriggerUnit.startBit, h, hblocked]
    · simp [State.modTrig, TriggerUnit.startBit, h, hawait, hhigh]
  · have hrow : exec (.lineWord bits) s = .next (completeWord bits s) := unlessHeld_free s hpin
    rw [hrow]
    refine ⟨fun h => by rw [completeWord, if_neg (by simp [h])], fun h => ?_⟩
    have hreceived : completeWord bits s =
        if !wordStop bits then
          s.modTrig fun t => { t with receiving := false, awaitHigh := true, lineFraming := wrap32 (t.lineFraming + 1) }
        else if !wordParityGood bits then s.modTrig fun t => { t with receiving := false, lineParity := wrap32 (t.lineParity + 1) }
        else if !s.items.lineEnable || !s.time.running then
          s.modTrig fun t => { t with receiving := false, lineIgnored := wrap32 (t.lineIgnored + 1) }
        else
          (s.modTrig fun t => { t with receiving := false }).modWires fun w => { w with lineOffers := w.lineOffers ++ [lineOffer bits] } := by
      rw [completeWord, if_pos h]
    have hodd (hones : ((List.range 12).filter fun k => bits.getLsbD k).length % 2 = 1) : wordParityGood bits = true := (wordParityGood_iff bits).2 hones
    rw [hreceived]
    refine ⟨fun hstop => ?_, fun hstop hones => ?_, fun hstop hones hunused => ?_, fun hstop hones henabled hrun => ?_⟩
    · rw [if_pos (by simpa [wordStop] using hstop)]
      rfl
    · have heven : wordParityGood bits = false := by
        rw [Bool.eq_false_iff, Ne, wordParityGood_iff]
        omega
      rw [if_neg (by simpa [wordStop] using hstop), heven, if_pos (by simp)]
      rfl
    · rw [if_neg (by simpa [wordStop] using hstop), hodd hones, if_neg (by simp), if_pos (by simpa using hunused)]
      rfl
    · rw [if_neg (by simpa [wordStop] using hstop), hodd hones, if_neg (by simp), henabled, hrun, if_neg (by simp), lineOffer_eq]
      rfl
  · rw [show exec .slotTableOffer s = unlessHeld tableTakeOffer s from rfl, unlessHeld_free s hpin, tableTakeOffer, h]
  · have hoffer : takeOffer o (s.modWires fun w => { w with lineOffers := rest }) =
        ({ (takeOffer o s).1 with wires := { s.wires with lineOffers := rest } }, (takeOffer o s).2) := takeOffer_setWires o s _
    rw [show exec .slotTableOffer s = unlessHeld tableTakeOffer s from rfl, unlessHeld_free s hpin, tableTakeOffer, h]
    dsimp only
    rw [hoffer, (takeOffer_changesTable o s).1]
    rfl
  · rw [show exec .lineAnswer s = unlessHeld takeLineAnswer s from rfl, unlessHeld_free s hpin, takeLineAnswer, h]
  · have hrow : exec .lineAnswer s = .next (lineAnswered o a (s.modWires fun w => { w with lineAnswers := rest })) := by
      rw [show exec .lineAnswer s = unlessHeld takeLineAnswer s from rfl, unlessHeld_free s hpin, takeLineAnswer, h]
    rw [hrow]
    refine ⟨fun i serial r x y ha => ?_, fun at' ha => ?_, fun code at' n ha hne hnamed => ?_⟩
    · rw [ha]
      rfl
    · rw [ha]
      rfl
    · have hslot : o.namedSlot = some n := by simp [Offer.namedSlot, hnamed]
      rw [ha, lineAnswered_refused hne, hslot]
      rfl

/-! ## The slot table's samples and stops -/

theorem tellReadouts_foldl (ms : List ReadoutMessage) (s : State) : ms.foldl State.tellReadouts s =
    { s with wires := { s.wires with readoutIn := { a := s.wires.readoutIn.a ++ ms, b := s.wires.readoutIn.b ++ ms } } } := by
  induction ms generalizing s with
  | nil => simp
  | cons m ms ih =>
    rw [List.foldl_cons, ih]
    simp [State.tellReadouts, State.modWires]

/-- The slots of a list changed, the others as they are. -/
theorem SlotTable.getElem_update (t : SlotTable) (which : List (Fin 8)) (f : Capture → Capture) (i : Fin 8) :
    (t.update which f)[i] = if i ∈ which then t.slots[i].map f else t.slots[i] := by
  rw [SlotTable.update_slots]
  split <;> simp

/-- What a stop makes of an ARMED capture, by what the run recorded of its window (R73). -/
theorem Capture.cut_eq (c : Capture) (newest : Option Nat) (recorded : Bool) (last : Int) (hrec : c.recordedBy newest = recorded)
    (hlast : c.cutEnd newest = last) : c.cut newest =
    if recorded then { c with flags := { c.flags with stopped := true }, effEnd := last, phase := .queued }
    else
      { c with
        flags := { c.flags with stopped := true }
        effEnd := last
        phase := if c.fetch.any (·.claim) then .claimed ((c.fetch.map (·.link)).getD .A) else .ready
        fetch := none } := by
  subst hrec hlast
  unfold Capture.cut
  split
  · rfl
  · unfold Capture.becomeReady
    cases c.fetch <;> rfl

/-- Settles O48. -/
theorem slotTableTakesSamplesAndStops : Obligations.SlotTableTakesSamplesAndStops := by
  unfold Obligations.SlotTableTakesSamplesAndStops
  refine fun s hpin => ⟨fun c rest h => ⟨_, ?_, fun i => SlotTable.getElem_update _ _ _ _⟩, fun reason tick rest h =>
    ⟨(s.table.takeStop s.tableNewest).slots, ?_, fun i => ?_⟩⟩
  · have hrow : exec .slotTableTakeSample s = .next (tableTakeSample s) := unlessHeld_free s hpin
    rw [hrow, tableTakeSample, h]
    rfl
  · have hrow : exec .slotTableTakeStop s = .next (tableTakeStop s) := unlessHeld_free s hpin
    rw [hrow, tableTakeStop, h]
    dsimp only
    rw [tellReadouts_foldl]
    rfl
  · refine (SlotTable.getElem_update _ _ _ _).trans ?_
    have hcut (k : Capture) := k.cut_eq s.tableNewest _ _ rfl rfl
    simp only [funext hcut]
    rfl

end Sys2Proof.Machine
end

section
/-! SUPPORT. The trigger unit's sample (O46): the alert rule and the auto rule work on parts of the state that the other leaves alone, so a sample is
the auto transitions' work beside the alert transitions'. -/

-- One theorem at a time: the proofs of so long a text would each hold a thread.
set_option Elab.async false

namespace Sys2Proof.Machine

/-! ## The alert rule's part of the state -/

/-- What the alert rule changes: ALERT, its countdown, the count of transitions, and the links' notices. -/
structure AlertPart where
  alert : Bool
  countdown : Nat
  transitions : Nat
  links : PerLink LinkState

/-- The state with that part put in its place. -/
def State.withAlert (u : State) (a : AlertPart) : State :=
  { u with
    trig := { u.trig with alert := a.alert, alertCountdown := a.countdown, alertTransitions := a.transitions }
    links := a.links }

/-- An alert transition's effect on that part (R59, R60). -/
def AlertPart.raised (width tick : Nat) (a : AlertPart) (x : Change) : AlertPart where
  alert := true
  countdown := width
  transitions := wrap32 (a.transitions + 1)
  links :=
    { a := a.links.a.noticed fun n => n.addAlert x.channel tick
      b := a.links.b.noticed fun n => n.addAlert x.channel tick }

theorem alertRule_withAlert (x : Change) (tick : Nat) (u : State) (a : AlertPart) :
    alertRule x tick (u.withAlert a) = u.withAlert (a.raised u.items.alertWidth tick x) := by
  rw [alertRule, State.notifyBoth, State.notify_eq, State.notify_eq]
  rfl

/-! ## The auto rule beside it -/

/-- An auto transition's effect on the rest of the state (R57, R58). -/
def autoAttempt (holdoff tick : Nat) (t : State) (x : Change) : State :=
  if t.trig.holdoff ≠ 0 then { t with trig := { t.trig with autoHeldOff := wrap32 (t.trig.autoHeldOff + 1) } }
  else autoAnswered x tick (takeOffer (autoOffer x tick) t).2
    { (takeOffer (autoOffer x tick) t).1 with trig := { t.trig with holdoff := holdoff } }

/-- An offer does not see the trigger unit or the links. -/
theorem takeOffer_setTrig (o : Offer) (s : State) (g : TriggerUnit) (k : PerLink LinkState) :
    takeOffer o { s with trig := g, links := k } = ({ (takeOffer o s).1 with trig := g, links := k }, (takeOffer o s).2) := by
  have hjudge : State.judgeOffer { s with trig := g, links := k } o = s.judgeOffer o := rfl
  cases h : s.judgeOffer o with
  | error e =>
    obtain ⟨code, i⟩ := e
    rw [takeOffer_refused h, takeOffer_refused (hjudge.trans h)]
  | ok j =>
    rw [takeOffer_accepted h, takeOffer_accepted (hjudge.trans h)]
    rfl

/-- A refusal of an AUTO offer for any other reason (R58). -/
theorem autoAnswered_refused {x : Change} {tick : Nat} {code : Result} {i : Option (Fin 8)} {s : State} (h1 : code ≠ .noSlot) (h2 : code ≠ .notRunning) :
    autoAnswered x tick (.refused code i) s =
      (s.modTrig fun t => { t with autoRefused := wrap32 (t.autoRefused + 1) }).triggerEntry (.triggerRefused .auto i) x.test := by
  cases code <;> first | rfl | exact absurd rfl h1 | exact absurd rfl h2

theorem autoAnswered_withAlert (x : Change) (tick : Nat) (answer : Answer) (u : State) (a : AlertPart) :
    autoAnswered x tick answer (u.withAlert a) = (autoAnswered x tick answer u).withAlert a := by
  cases answer with
  | accepted i serial r b e => rfl
  | refused code i => cases code <;> rfl

theorem autoRule_withAlert (x : Change) (tick : Nat) (u : State) (a : AlertPart) :
    autoRule x tick (u.withAlert a) = (autoAttempt u.items.autoHoldoff tick u x).withAlert a := by
  unfold autoRule autoAttempt
  by_cases h : u.trig.holdoff = 0
  · have hoffer := takeOffer_setTrig (autoOffer x tick) u { (u.withAlert a).trig with holdoff := u.items.autoHoldoff } a.links
    rw [if_neg (by simpa [State.withAlert] using h), if_neg (by simpa using h)]
    show autoAnswered x tick (takeOffer (autoOffer x tick) { u with trig := { (u.withAlert a).trig with holdoff := u.items.autoHoldoff }, links := a.links }).2
      (takeOffer (autoOffer x tick) { u with trig := { (u.withAlert a).trig with holdoff := u.items.autoHoldoff }, links := a.links }).1 = _
    rw [hoffer, ← autoAnswered_withAlert]
    rfl
  · rw [if_pos (by simpa [State.withAlert] using h), if_pos h]
    rfl

theorem autoAttempt_items (holdoff tick : Nat) (t : State) (x : Change) : (autoAttempt holdoff tick t x).items = t.items := by
  unfold autoAttempt
  split
  · rfl
  · obtain ⟨table, e⟩ := takeOffer_only t (autoOffer x tick)
    rw [e]
    cases (takeOffer (autoOffer x tick) t).2 with
    | accepted i serial r b e => rfl
    | refused code i => cases code <;> rfl

/-! ## The changes of a sample -/

/-- The alert transitions and the auto transitions among changes. -/
def alertsOf (cs : List Change) : List Change := cs.filter fun x => (x.kind == .rise || x.kind == .fall) && x.alert

def autosOf (cs : List Change) : List Change := cs.filter fun x => (x.kind == .rise || x.kind == .fall) && x.auto

theorem transitionRules_foldl (tick : Nat) (cs : List Change) (u : State) (a : AlertPart) :
    cs.foldl (transitionRules tick) (u.withAlert a) =
      ((autosOf cs).foldl (autoAttempt u.items.autoHoldoff tick) u).withAlert ((alertsOf cs).foldl (AlertPart.raised u.items.alertWidth tick) a) := by
  induction cs generalizing u a with
  | nil => rfl
  | cons x cs ih =>
    have hstep : transitionRules tick (u.withAlert a) x =
        (if (x.kind == .rise || x.kind == .fall) && x.auto then autoAttempt u.items.autoHoldoff tick u x else u).withAlert
          (if (x.kind == .rise || x.kind == .fall) && x.alert then a.raised u.items.alertWidth tick x else a) := by
      unfold transitionRules Change.isTransition
      cases (x.kind == .rise || x.kind == .fall)
      · rfl
      · cases x.alert <;> cases x.auto <;> simp [alertRule_withAlert, autoRule_withAlert]
    rw [List.foldl_cons, hstep, ih]
    have halerts : alertsOf (x :: cs) = if (x.kind == .rise || x.kind == .fall) && x.alert then x :: alertsOf cs else alertsOf cs := List.filter_cons
    have hautos : autosOf (x :: cs) = if (x.kind == .rise || x.kind == .fall) && x.auto then x :: autosOf cs else autosOf cs := List.filter_cons
    rw [halerts, hautos]
    split <;> split <;> simp only [List.foldl_cons, autoAttempt_items]

/-! ## What the alerts of a sample come to -/

/-- A link's notice after alerts: the count so far, the last channel and the tick (R60). -/
theorem noticed_foldl {k : LinkState} {tick : Nat} {cs : List Change} (hopen : k.session.isSome = true) {x : Change} (hlast : cs.getLast? = some x) :
    cs.foldl (fun k x => k.noticed fun n => n.addAlert x.channel tick) k =
      { k with
        notices := { k.notices with
          alert := some { count := min 65535 ((k.notices.alert.map (·.count)).getD 0 + cs.length), channel := x.channel, tick := tick } } } := by
  induction cs using List.reverseRecOn generalizing x with
  | nil => cases hlast
  | append_singleton before y ih =>
    obtain rfl : y = x := by simpa using hlast
    rw [List.foldl_append, List.foldl_cons, List.foldl_nil]
    cases hb : before.getLast? with
    | none =>
      obtain rfl := List.getLast?_eq_none_iff.1 hb
      simp [LinkState.noticed, hopen, Notices.addAlert]
    | some z =>
      rw [ih hb]
      have hcount (m n : Nat) : min 65535 (min 65535 (m + n) + 1) = min 65535 (m + (n + 1)) := by omega
      simp [LinkState.noticed, hopen, Notices.addAlert, hcount]

theorem raised_foldl_links (width tick : Nat) (cs : List Change) (a : AlertPart) (l : Link) :
    (cs.foldl (AlertPart.raised width tick) a).links.get l =
      cs.foldl (fun k x => k.noticed fun n => n.addAlert x.channel tick) (a.links.get l) := by
  induction cs generalizing a with
  | nil => rfl
  | cons x cs ih =>
    rw [List.foldl_cons, List.foldl_cons, ih]
    cases l <;> rfl

theorem noticed_foldl_closed {k : LinkState} {tick : Nat} (h : k.session = none) (cs : List Change) :
    cs.foldl (fun k x => k.noticed fun n => n.addAlert x.channel tick) k = k := by
  induction cs with
  | nil => rfl
  | cons x cs ih =>
    have hsame : (k.noticed fun n => n.addAlert x.channel tick) = k := by simp [LinkState.noticed, h]
    rw [List.foldl_cons, hsame, ih]

/-- The alerts' part but for the links. -/
theorem raised_foldl (width tick : Nat) (cs : List Change) (a : AlertPart) : cs.foldl (AlertPart.raised width tick) a =
    { alert := a.alert || decide (cs ≠ [])
      countdown := if cs = [] then a.countdown else width
      transitions := if cs = [] then a.transitions else wrap32 (a.transitions + cs.length)
      links := (cs.foldl (AlertPart.raised width tick) a).links } := by
  induction cs using List.reverseRecOn with
  | nil => simp
  | append_singleton before y ih =>
    rw [List.foldl_append, List.foldl_cons, List.foldl_nil, ih]
    have hwrap (m n : Nat) : wrap32 (wrap32 (m + n) + 1) = wrap32 (m + (n + 1)) := by
      simp only [wrap32]
      omega
    by_cases hb : before = []
    · simp [AlertPart.raised, hb]
    · simp [AlertPart.raised, hb, hwrap]

/-! ## A sample at the trigger unit -/

/-- The trigger unit's sample: the autos' work, with the alerts' part and ALERT as the countdown has it. -/
theorem trigUnitTakeSample_eq {s : State} {c : Conditioned} {rest : List TimeMessage} (h : s.wires.trigIn = .sample c :: rest) :
    trigUnitTakeSample s =
      (((autosOf c.changes).foldl (autoAttempt s.items.autoHoldoff c.tick)
        { s with trig := { s.trig with holdoff := s.trig.holdoff - 1 }, wires := { s.wires with trigIn := rest } }).withAlert
          ((alertsOf c.changes).foldl (AlertPart.raised s.items.alertWidth c.tick)
            { alert := s.trig.alert, countdown := s.trig.alertCountdown - 1, transitions := s.trig.alertTransitions, links := s.links })).modTrig
              TriggerUnit.settle := by
  rw [trigUnitTakeSample, h]
  dsimp only
  rw [trigUnitSample]
  refine congrArg (State.modTrig · _) ?_
  exact transitionRules_foldl c.tick c.changes
    { s with trig := { s.trig with holdoff := s.trig.holdoff - 1 }, wires := { s.wires with trigIn := rest } }
    { alert := s.trig.alert, countdown := s.trig.alertCountdown - 1, transitions := s.trig.alertTransitions, links := s.links }

/-- ALERT at the end of a sample follows the countdown (R56 item 4). -/
theorem settle_withAlert (u : State) (a : AlertPart) : (u.withAlert a).modTrig TriggerUnit.settle =
    u.withAlert { a with alert := decide (a.countdown ≠ 0) && a.alert } := by
  by_cases h : a.countdown = 0
  · simp [State.modTrig, TriggerUnit.settle, State.withAlert, h]
  · simp [State.modTrig, TriggerUnit.settle, State.withAlert, h]

/-- Settles O46. -/
theorem triggerUnitWorksThroughASample : Obligations.TriggerUnitWorksThroughASample := by
  unfold Obligations.TriggerUnitWorksThroughASample
  intro s c rest hpin htrig alerts autos countdown counted attempt after
  set part : AlertPart := (alertsOf c.changes).foldl (AlertPart.raised s.items.alertWidth c.tick)
    { alert := s.trig.alert, countdown := s.trig.alertCountdown - 1, transitions := s.trig.alertTransitions, links := s.links } with hpart
  have hattempt : attempt = autoAttempt s.items.autoHoldoff c.tick := by
    funext t x
    by_cases h : t.trig.holdoff = 0
    · refine (if_neg (not_not_intro h)).trans (Eq.trans ?_ (if_neg (not_not_intro h)).symm)
      show (match (takeOffer (autoOffer x c.tick) t).2 with
        | .accepted i serial _ _ _ => _
        | .refused code at' => _) = _
      cases ha : (takeOffer (autoOffer x c.tick) t).2 with
      | accepted i serial r a b =>
        rw [(takeOffer_changesTable (autoOffer x c.tick) t).1]
        rfl
      | refused code at' =>
        rw [(takeOffer_changesTable (autoOffer x c.tick) t).2 code at' ha]
        by_cases hslot : code = .noSlot
        · subst hslot
          exact (if_pos rfl).trans rfl
        · by_cases hrun : code = .notRunning
          · subst hrun
            exact (if_neg hslot).trans ((if_pos rfl).trans rfl)
          · rw [autoAnswered_refused hslot hrun]
            exact (if_neg hslot).trans ((if_neg hrun).trans rfl)
    · exact (if_pos h).trans (if_pos h).symm
  have hsample : trigUnitTakeSample s = { after with
      trig := { after.trig with
        alertCountdown := countdown
        alert := decide (countdown ≠ 0) && (s.trig.alert || decide (alerts ≠ []))
        alertTransitions := if alerts = [] then s.trig.alertTransitions else wrap32 (s.trig.alertTransitions + alerts.length) }
      links := part.links } := by
    have hfold : part =
        { alert := s.trig.alert || decide (alerts ≠ [])
          countdown := countdown
          transitions := if alerts = [] then s.trig.alertTransitions else wrap32 (s.trig.alertTransitions + alerts.length)
          links := part.links } :=
      raised_foldl s.items.alertWidth c.tick (alertsOf c.changes) _
    rw [trigUnitTakeSample_eq htrig, ← hpart, ← hattempt, hfold, settle_withAlert]
    rfl
  have hrow : exec .triggerUnitTakeSample s = .next (trigUnitTakeSample s) := unlessHeld_free s hpin
  have hexpiry : exec .alertCountdownExpiry s = .next (if s.alertExpires then trigUnitTakeSample s else s) :=
    unlessHeld_free (f := fun s => if s.alertExpires then trigUnitTakeSample s else s) s hpin
  have hafter : (trigUnitTakeSample s).trig.alertCountdown = countdown := by rw [hsample]
  refine ⟨part.links, by rw [hrow, hsample], fun l => ⟨fun hno => ?_, fun n x hn hx => ?_⟩, fun hrun hzero => ?_, fun hnot => ?_⟩
  · rw [hpart, raised_foldl_links]
    obtain hclosed | hnil := hno
    · exact noticed_foldl_closed hclosed _
    · rw [show alertsOf c.changes = [] from hnil]
      rfl
  · rw [hpart, raised_foldl_links]
    exact noticed_foldl (by rw [hn]; rfl) hx
  · rw [hexpiry, if_pos (by simp [State.alertExpires, hrun, hafter, hzero]), hsample]
  · rw [hexpiry, if_neg]
    obtain h | h := hnot
    · simp [State.alertExpires, h]
    · simp [State.alertExpires, hafter, h]

end Sys2Proof.Machine
end

section
/-! SUPPORT. The extraction queue and the engines (O49, O50, O52, O53): what the queue's head, the ring's answer, the end, a drop and a return do. -/

-- One theorem at a time: the proofs of so long a text would each hold a thread.
set_option Elab.async false

namespace Sys2Proof.Machine

/-! ## The head of the queue -/

section
variable {s : State}

theorem State.idleEngine_eq_none (h0 : s.engines.x0 ≠ .idle) (h1 : s.engines.x1 ≠ .idle) : s.idleEngine = none := by
  rw [State.idleEngine, if_neg h0, if_neg h1]

theorem State.idleEngine_eq_some {e : Engine} (he : s.engines.get e = .idle) (hfirst : e = .e1 → s.engines.x0 ≠ .idle) : s.idleEngine = some e := by
  cases e with
  | e0 => exact if_pos he
  | e1 => exact (if_neg (hfirst rfl)).trans (if_pos he)

end

/-- Settles O49. -/
theorem engineTakesTheHeadOfTheQueue : Obligations.EngineTakesTheHeadOfTheQueue := by
  unfold Obligations.EngineTakesTheHeadOfTheQueue
  intro s hpin
  have hrow : exec .engineTakeSlot s = .next (engineTakeSlot s) := unlessHeld_free s hpin
  rw [hrow]
  refine ⟨fun hno => ?_, fun i rest c e hqueue hc he hfirst => ?_⟩
  · obtain hnil | ⟨h0, h1⟩ := hno
    · rw [engineTakeSlot, hnil]
    · rw [engineTakeSlot, State.idleEngine_eq_none h0 h1]
      cases s.table.queue <;> rfl
  · rw [engineTakeSlot, hqueue, State.idleEngine_eq_some he hfirst]
    dsimp only
    rw [giveHead, hc]
    rfl

/-! ## The begin of an extraction -/

/-- R89 over the rows of the answer, in one: the damaged rows in front, then the first intact one. -/
theorem Working.findInitial_eq (w : Working) (rows : List ReadRow) :
    let damaged := rows.takeWhile fun x => x.content.isNone
    let found : Working := { w with effStart := w.effStart + damaged.length, flags := { w.flags with rowError := w.flags.rowError || decide (damaged ≠ []) } }
    (w.findInitial rows).2 = damaged.map (fun x => rowCheck w.slot w.serial x.tick) ∧
    (rows.drop damaged.length = [] → (w.findInitial rows).1 = { found with rows := [] }) ∧
    ∀ x rest levels test, rows.drop damaged.length = x :: rest → x.content = some (levels, test) → (w.findInitial rows).1 =
      { found with initial := some levels, baseline := some levels, flags := { found.flags with testSeen := w.flags.testSeen || test }, rows := rest } := by
  induction rows generalizing w with
  | nil => simp [Working.findInitial]
  | cons r rows ih =>
    cases hr : r.content with
    | none =>
      obtain ⟨hfaults, hnone, hsome⟩ := ih { w with effStart := w.effStart + 1, flags := { w.flags with rowError := true } }
      have hadd (n : Nat) : w.effStart + 1 + (n : Int) = w.effStart + ((n + 1 : Nat) : Int) := by omega
      simp only [List.takeWhile_cons, hr, Option.isNone_none, if_true, List.length_cons, List.drop_succ_cons, Working.findInitial, List.map_cons]
      refine ⟨by rw [hfaults], fun h => ?_, fun x rest levels test h hx => ?_⟩
      · rw [hnone h]
        simp [hadd]
      · rw [hsome x rest levels test h hx]
        simp [hadd]
    | some content =>
      obtain ⟨levels, test⟩ := content
      simp only [List.takeWhile_cons, hr, Option.isNone_some, Working.findInitial]
      refine ⟨rfl, fun h => by simp at h, fun x rest levels' test' h hx => ?_⟩
      obtain ⟨rfl, rfl⟩ : r = x ∧ rows = rest := by simpa using h
      obtain ⟨rfl, rfl⟩ : levels = levels' ∧ test = test' := by simpa [hr] using hx
      simp

/-- After the damaged rows in front stands an intact one, or nothing. -/
theorem intact_after_damaged {rows : List ReadRow} {x : ReadRow} {rest : List ReadRow}
    (h : rows.drop (rows.takeWhile fun x => x.content.isNone).length = x :: rest) : ∃ levels test, x.content = some (levels, test) := by
  induction rows with
  | nil => simp at h
  | cons r rows ih =>
    cases hr : r.content with
    | none => exact ih (by simpa [List.takeWhile_cons, hr] using h)
    | some content =>
      obtain ⟨rfl, -⟩ : r = x ∧ rows = rest := by simpa [List.takeWhile_cons, hr] using h
      exact ⟨content.1, content.2, hr⟩

section
variable {s : State} {e : Engine} {r : Reading}

theorem extractionBegin_waiting (he : s.engines.get e = .reading r)
    (h : ∀ q, (s.wires.reads.get e).find? (fun q => q.isFor r.slot r.serial) = some q → q.take s.ring = none) : extractionBegin e s = s := by
  have hnone : ((s.wires.reads.get e).find? fun q => q.isFor r.slot r.serial).bind (fun q => q.take s.ring) = none := by
    cases hf : (s.wires.reads.get e).find? fun q => q.isFor r.slot r.serial with
    | none => rfl
    | some q => exact h q hf
  rw [extractionBegin, he]
  dsimp only
  rw [hnone]

theorem extractionBegin_answered {q : ReadRequest} {a : ReadAnswer} (he : s.engines.get e = .reading r)
    (hf : (s.wires.reads.get e).find? (fun q => q.isFor r.slot r.serial) = some q) (hq : q.take s.ring = some a) :
    extractionBegin e s = ((s.dropRead e fun q => q.isFor r.slot r.serial).setEngine e (.working (r.begin a (s.time.runStart.getD 1)).1)).engineFault e
      (r.begin a (s.time.runStart.getD 1)).2 := by
  rw [extractionBegin, he]
  dsimp only
  rw [hf, Option.bind_some, hq]

end

/-- R88: the flags of the clip. -/
theorem clipFlags_early (f : Flags) (start stop : Int) (oldest runStart : Nat) : (clipFlags f start stop oldest runStart).early = true ↔
    f.early = true ∨ (start < max start (oldest : Int) ∧ start < (runStart : Int)) := by
  simp [clipFlags, clippedStart]

theorem clipFlags_overrun (f : Flags) (start stop : Int) (oldest runStart : Nat) : (clipFlags f start stop oldest runStart).overrun = true ↔
    f.overrun = true ∨ (start < max start (oldest : Int) ∧ runStart < oldest) ∨ stop < max start (oldest : Int) := by
  simp [clipFlags, clippedStart, or_assoc]

/-- Settles O50. -/
theorem extractionBeginsWithTheRingsAnswer : Obligations.ExtractionBeginsWithTheRingsAnswer := by
  unfold Obligations.ExtractionBeginsWithTheRingsAnswer
  intro e r s hpin he
  have hrow : exec (.extractionBegin e) s = .next (extractionBegin e s) := unlessHeld_free s hpin
  rw [hrow]
  refine ⟨fun h => by rw [extractionBegin_waiting he h], fun q a hf hq => ?_⟩
  rw [extractionBegin_answered he hf hq]
  intro runStart start rows damaged left
  obtain ⟨hfaults, hnone, hsome⟩ := Working.findInitial_eq (r.begun a.oldest runStart) rows
  refine ⟨((r.begun a.oldest runStart).findInitial rows).1, ?_, ?_⟩
  · show Host.Outcome.next (State.engineFault _ e ((r.begun a.oldest runStart).findInitial rows).2) = _
    rw [hfaults]
    rfl
  · have hrows : (r.flags.rowError || decide (damaged ≠ [])) = true ↔ r.flags.rowError = true ∨ damaged ≠ [] := by simp
    have hearly := clipFlags_early r.flags r.start r.stop a.oldest runStart
    have hoverrun := clipFlags_overrun r.flags r.start r.stop a.oldest runStart
    cases hleft : left with
    | nil =>
      rw [hnone hleft]
      exact ⟨rfl, rfl, rfl, rfl, rfl, rfl, rfl, rfl, rfl, hearly, hoverrun, hrows, rfl, rfl, rfl, fun _ => ⟨rfl, rfl, rfl⟩, fun x rest levels test h => by cases h⟩
    | cons x rest =>
      obtain ⟨levels, test, hx⟩ := intact_after_damaged hleft
      rw [hsome x rest levels test hleft hx]
      refine ⟨rfl, rfl, rfl, rfl, rfl, rfl, rfl, rfl, rfl, hearly, hoverrun, hrows, rfl, rfl, rfl, fun h => absurd h (List.cons_ne_nil _ _), fun y rest' levels' test' h hy => ?_⟩
      obtain ⟨rfl, rfl⟩ : x = y ∧ rest = rest' := by simpa using h
      obtain ⟨rfl, rfl⟩ : levels = levels' ∧ test = test' := by simpa [hx] using hy
      exact ⟨rfl, rfl, rfl⟩

/-! ## The end of an extraction -/

theorem ceilDiv_blockRecords (n : Nat) : ceilDiv n Config.blockRecords = (n + 31) / 32 := rfl

theorem returnFromEngine_eq (s : State) (e : Engine) (blocks : List Nat) : s.returnFromEngine e blocks =
    if blocks = [] then s
    else { s with wires := { s.wires with engineReturns := s.wires.engineReturns.set e (s.wires.engineReturns.get e ++ [blocks]) } } := by
  cases blocks <;> rfl

theorem State.extractsUnder_eq_none {s : State} {i : Fin 8} {serial : Nat}
    (h : ∀ c, s.slot i = some c → c.phase ≠ .extracting ∨ c.serial ≠ serial) : s.extractsUnder i serial = none := by
  rw [State.extractsUnder, Option.filter_eq_none_iff]
  intro c hc
  obtain hp | hs := h c hc
  · simp [hp]
  · simp [hs]

theorem State.extractsUnder_of {s : State} {i : Fin 8} {serial : Nat} {c : Capture} (hc : s.slot i = some c) (hp : c.phase = .extracting)
    (hs : c.serial = serial) : s.extractsUnder i serial = some c := by
  rw [State.extractsUnder, hc, Option.filter_some, if_pos (by simp [hp, hs])]

/-- The result of an extraction with a pending fetch applied (R96, R109). -/
theorem becomeReady_withResult (c : Capture) (w : Working) : (c.withResult w).becomeReady =
    { c with
      phase := if c.fetch.any (·.claim) then .claimed ((c.fetch.map (·.link)).getD .A) else .ready
      effStart := w.effStart
      effEnd := w.effEnd
      flags := w.flags
      initial := w.initial
      records := w.records
      blocks := w.blocks
      fetch := none } := by
  unfold Capture.becomeReady Capture.withResult
  cases c.fetch <;> rfl

/-- Settles O52. -/
theorem extractionEndsInACapture : Obligations.ExtractionEndsInACapture := by
  unfold Obligations.ExtractionEndsInACapture
  intro e w s hpin
  have hend : exec (.extractionEnd e) s = .next (extractionEnd e s) := unlessHeld_free s hpin
  have htaken : exec (.extractionEndTaken e) s = .next (takeEnd e s) := unlessHeld_free s hpin
  rw [hend, htaken]
  refine ⟨fun he => ⟨fun hleft => ?_, fun hrows hplacing => ?_⟩, fun he => ⟨fun c hc hp hserial => ?_, fun hnot => ?_⟩⟩
  · have hnot : w.finished = false := by
      obtain h | h := hleft
      · simp [Working.finished, h]
      · simp [Working.finished, Option.isSome_iff_ne_none.2 h]
    rw [extractionEnd, he]
    dsimp only
    rw [if_neg (by simp [hnot])]
  · have hdone : w.finished = true := by simp [Working.finished, hrows, hplacing]
    rw [extractionEnd, he]
    dsimp only
    rw [if_pos hdone, returnFromEngine_eq, Working.keptBlocks, ceilDiv_blockRecords]
    split <;> rfl
  · rw [takeEnd, he]
    dsimp only
    rw [State.extractsUnder_of hc hp hserial]
    dsimp only
    rw [becomeReady_withResult]
    rfl
  · rw [takeEnd, he]
    dsimp only
    rw [State.extractsUnder_eq_none hnot]
    dsimp only
    rw [returnFromTable_eq]
    rfl

/-! ## Dropped work and the pool -/

section
variable {s : State} {e : Engine}

theorem engineDrop_found {i : Fin 8} {n : Nat} {rest : List (Fin 8 × Nat)} {blocks : List Nat} (h : s.wires.drops.get e = (i, n) :: rest)
    (hd : (s.engines.get e).droppable i n = some blocks) : engineDrop e s =
    (({ s with wires := { s.wires with drops := s.wires.drops.set e rest } } : State).setEngine e .idle).returnFromEngine e blocks := by
  rw [engineDrop, h]
  dsimp only
  rw [hd]
  rfl

theorem engineDrop_elsewhere {i : Fin 8} {n : Nat} {rest : List (Fin 8 × Nat)} (h : s.wires.drops.get e = (i, n) :: rest)
    (hd : (s.engines.get e).droppable i n = none) : engineDrop e s = { s with wires := { s.wires with drops := s.wires.drops.set e rest } } := by
  rw [engineDrop, h]
  dsimp only
  rw [hd]
  rfl

theorem EngineState.droppable_eq_none {x : EngineState} {i : Fin 8} {n : Nat} (h : (∃ w, x = .ending w) ∨ x.worksOn ≠ some (i, n)) :
    x.droppable i n = none := by
  cases x with
  | idle => rfl
  | ending w => rfl
  | reading r =>
    obtain ⟨w, hw⟩ | h := h
    · cases hw
    · exact if_neg fun ⟨hi, hn⟩ => h (by rw [EngineState.worksOn, hi, hn])
  | working w =>
    obtain ⟨x, hx⟩ | h := h
    · cases hx
    · exact if_neg fun ⟨hi, hn⟩ => h (by rw [EngineState.worksOn, hi, hn])

end

/-- The oldest of the pool's answers off the way. -/
theorem dropBlockAnswer_cons {s : State} {e : Engine} {a : BlockAnswer} {rest : List BlockAnswer} (h : s.wires.blockAnswers.get e = a :: rest) :
    s.dropBlockAnswer e = { s with wires := { s.wires with blockAnswers := s.wires.blockAnswers.set e rest } } := by
  simp only [State.dropBlockAnswer, State.modWires, h, List.tail_cons]

theorem dropRead_eq (s : State) (e : Engine) (p : ReadRequest → Bool) : s.dropRead e p =
    { s with wires := { s.wires with reads := s.wires.reads.set e ((s.wires.reads.get e).eraseP p) } } := rfl

/-- Settles O53. -/
theorem droppedWorkGivesItsBlocksBack : Obligations.DroppedWorkGivesItsBlocksBack := by
  unfold Obligations.DroppedWorkGivesItsBlocksBack
  intro e s hpin
  have hdrop : exec (.engineDrop e) s = .next (engineDrop e s) := unlessHeld_free s hpin
  have hlate (a : LateAnswer) : exec (.lateEngineAnswer e a) s = .next (lateEngineAnswer e a s) := unlessHeld_free s hpin
  have hpool (g : BlockGiver) : exec (.poolReturn g) s = .next (poolReturn g s) := unlessHeld_free s hpin
  rw [hdrop, hlate, hlate, hpool, hpool]
  dsimp only
  refine ⟨fun i n rest h => ⟨fun r he hi hn => ?_, fun w he hi hn => ?_, fun hnot => ?_⟩, fun a rest h hne => ?_, fun q before after a h hbefore hne hq => ?_,
    fun blocks rest h => ?_, fun blocks rest h => ?_⟩
  · rw [engineDrop_found (blocks := []) h (by rw [he]; exact if_pos ⟨hi, hn⟩), returnFromEngine_eq, if_pos rfl]
    rfl
  · rw [engineDrop_found (blocks := w.blocks) h (by rw [he]; exact if_pos ⟨hi, hn⟩), returnFromEngine_eq]
    by_cases hb : w.blocks = []
    · rw [if_pos hb, if_pos hb]
      rfl
    · rw [if_neg hb, if_neg hb]
      rfl
  · rw [engineDrop_elsewhere h (EngineState.droppable_eq_none hnot)]
  · have hnot : s.worksFor e a.slot a.serial = false := by simp [State.worksFor, hne]
    rw [lateEngineAnswer, lateGrant, h]
    dsimp only
    rw [if_neg (by simp [hnot]), returnFromEngine_eq, dropBlockAnswer_cons h]
    by_cases hb : a.block.toList = []
    · rw [if_pos hb, if_pos hb]
    · rw [if_neg hb, if_neg hb]
  · have hlateq : s.lateRead e q = true := by simp [State.lateRead, State.worksFor, hne, hq]
    have herase : (s.wires.reads.get e).eraseP (s.lateRead e) = before ++ after := by
      rw [h, List.eraseP_append_right _ (fun x hx => by simp [hbefore x hx]), List.eraseP_cons_of_pos hlateq]
    rw [lateEngineAnswer, lateRingAnswer, dropRead_eq, herase]
  · rw [poolReturn, poolReturnTable, h]
    rfl
  · rw [poolReturn, poolReturnEngine, h]
    rfl

end Sys2Proof.Machine
end

section
/-! SUPPORT. Rows become records (O51): the records of a row, the pool's answers, and what an engine does with the row it sets down. -/

-- One theorem at a time: the proofs of so long a text would each hold a thread.
set_option Elab.async false

namespace Sys2Proof.Machine

/-! ## The records of a row (R90) -/

/-- What makes a record of this kind between the baseline and a row. -/
def recordArises (before after : RowLevels) (c : Fin 48) : RecordKind → Prop
  | .live => before.held.getLsbD c = true ∧ after.held.getLsbD c = false
  | .rise => before.levels.getLsbD c = false ∧ after.levels.getLsbD c = true
  | .fall => before.levels.getLsbD c = true ∧ after.levels.getLsbD c = false
  | .hold => before.held.getLsbD c = false ∧ after.held.getLsbD c = true

/-- The place of a kind among the records of one channel. -/
def recordRank : RecordKind → Nat
  | .live => 0
  | .rise => 1
  | .fall => 1
  | .hold => 2

theorem mem_channelRecords {before after : RowLevels} {offset : Int} {c : Fin 48} {x : CaptureRecord} :
    x ∈ channelRecords before after offset c ↔ x.channel = c ∧ x.offset = offset ∧ recordArises before after c x.kind := by
  obtain ⟨channel, kind, off⟩ := x
  have hone (p : Bool) (k : RecordKind) : ({ channel := channel, kind := kind, offset := off } : CaptureRecord) ∈
      (if p then [{ channel := c, kind := k, offset := offset }] else []) ↔ p = true ∧ channel = c ∧ kind = k ∧ off = offset := by
    cases p <;> simp
  simp only [channelRecords, List.mem_append, hone]
  simp only [Bool.and_eq_true, Bool.not_eq_true']
  cases kind <;> simp only [recordArises, reduceCtorEq, false_and, and_false, true_and, or_false, false_or] <;> tauto

theorem channelRecords_pairwise (before after : RowLevels) (offset : Int) (c : Fin 48) :
    (channelRecords before after offset c).Pairwise fun x y => recordRank x.kind < recordRank y.kind := by
  unfold channelRecords
  cases before.held.getLsbD c <;> cases after.held.getLsbD c <;> cases before.levels.getLsbD c <;> cases after.levels.getLsbD c <;>
    simp [recordRank]

theorem mem_rowRecords {before after : RowLevels} {offset : Int} {x : CaptureRecord} :
    x ∈ rowRecords before after offset ↔ x.offset = offset ∧ recordArises before after x.channel x.kind := by
  simp only [rowRecords, List.mem_flatMap, List.mem_finRange, true_and, mem_channelRecords]
  constructor
  · rintro ⟨c, rfl, ho, hk⟩
    exact ⟨ho, hk⟩
  · rintro ⟨ho, hk⟩
    exact ⟨x.channel, rfl, ho, hk⟩

/-- Channels ascending, and within a channel LIVE, then RISE or FALL, then HOLD. -/
theorem rowRecords_pairwise (before after : RowLevels) (offset : Int) : (rowRecords before after offset).Pairwise fun x y =>
    x.channel < y.channel ∨ (x.channel = y.channel ∧ recordRank x.kind < recordRank y.kind) := by
  rw [rowRecords, List.pairwise_flatMap]
  refine ⟨fun c _ => ?_, ?_⟩
  · refine List.Pairwise.imp_of_mem (fun hx hy h => .inr ⟨?_, h⟩) (channelRecords_pairwise before after offset c)
    rw [(mem_channelRecords.1 hx).1, (mem_channelRecords.1 hy).1]
  · refine (List.pairwise_lt_finRange 48).imp fun hlt x hx y hy => .inl ?_
    rw [(mem_channelRecords.1 hx).1, (mem_channelRecords.1 hy).1]
    exact hlt

/-! ## A row set down (R93) -/

section
variable {w : Working} {p : Placing}

theorem Working.setDown_empty (h : p.records = []) : w.setDown p = (w.place p, false) := by
  rw [Working.setDown, h]
  rfl

variable (hne : p.records ≠ [])
include hne

theorem Working.setDown_full (h : 1024 < w.records.length + p.records.length) :
    w.setDown p = (({ w with flags := { w.flags with full := true } }).cutAt p.tick, false) := by
  rw [Working.setDown, if_neg (by simpa using hne), if_pos (show _ > Config.captureRecords from h)]

variable (hfits : w.records.length + p.records.length ≤ 1024)
include hfits

theorem Working.setDown_room (h : (w.records.length + p.records.length + 31) / 32 ≤ w.blocks.length) : w.setDown p = (w.place p, false) := by
  have hroom : w.hasRoom p.records.length = true := decide_eq_true h
  rw [Working.setDown, if_neg (by simpa using hne), if_neg (show ¬ _ > Config.captureRecords from Nat.not_lt.2 hfits), if_pos hroom]

theorem Working.setDown_asks (h : w.blocks.length < (w.records.length + p.records.length + 31) / 32) :
    w.setDown p = ({ w with placing := some p }, true) := by
  have hroom : w.hasRoom p.records.length = false := decide_eq_false (Nat.not_le.2 h)
  rw [Working.setDown, if_neg (by simpa using hne), if_neg (show ¬ _ > Config.captureRecords from Nat.not_lt.2 hfits), if_neg (by simp [hroom])]

end

theorem extractionRow_intact {s : State} {e : Engine} {w : Working} {r : ReadRow} {rest : List ReadRow} {levels base : RowLevels} {test : Bool}
    (he : s.engines.get e = .working w) (hp : w.placing = none) (hrows : w.rows = r :: rest) (hr : r.content = some (levels, test))
    (hbase : w.baseline = some base) : extractionRow e s =
    s.setWorking e (({ w with rows := rest, flags := { w.flags with testSeen := w.flags.testSeen || test } } : Working).setDown
      { tick := r.tick, content := levels, records := rowRecords base levels ((r.tick : Int) - w.ref) }) := by
  rw [extractionRow, he]
  dsimp only
  rw [hp, hrows]
  dsimp only
  rw [hr]
  dsimp only
  rw [Working.placing?, hbase]
  rfl

theorem blockAnswer_taken {s : State} {e : Engine} {w : Working} {p : Placing} {a : BlockAnswer} {rest : List BlockAnswer}
    (he : s.engines.get e = .working w) (hp : w.placing = some p) (ha : s.wires.blockAnswers.get e = a :: rest) (hslot : a.slot = w.slot)
    (hserial : a.serial = w.serial) : blockAnswer e s = match a.block with
      | some b => (s.dropBlockAnswer e).setWorking e (w.granted p b)
      | none => ((s.dropBlockAnswer e).setEngine e (.working (w.refused p))).engineFault e [poolExhausted w.slot w.serial p.tick] := by
  rw [blockAnswer, he, ha]
  dsimp only
  rw [hp]
  dsimp only
  rw [if_pos ⟨hslot, hserial⟩] <;> rfl

/-- Settles O51. -/
theorem rowsBecomeRecords : Obligations.RowsBecomeRecords := by
  unfold Obligations.RowsBecomeRecords
  refine ⟨fun before after offset => ?_, fun e s hpin => ?_⟩
  · intro rank
    have hrank : rank = recordRank := by
      funext k
      cases k <;> rfl
    rw [hrank]
    refine ⟨rowRecords_pairwise before after offset, fun x => mem_rowRecords.trans (and_congr_right fun _ => ?_)⟩
    cases x.kind <;> rfl
  · have hrequest (pick : Nat) : exec (.blockRequest e pick) s = .next (blockRequest e pick s) := unlessHeld_free s hpin
    have hrow : exec (.extractionRow e) s = .next (extractionRow e s) := unlessHeld_free s hpin
    have hanswer : exec (.blockAnswer e) s = .next (blockAnswer e s) := unlessHeld_free s hpin
    rw [hrow, hanswer]
    refine ⟨fun pick q rest h => ⟨fun hnil => ?_, fun b hb => ?_⟩, fun w he => ⟨fun hp r rest hrows => ⟨fun hr => ?_, fun levels test base hr hbase =>
      ⟨fun hnone => ?_, fun hne hfull => ?_, fun hne hfits hroom => ?_, fun hne hfits hlack => ?_⟩⟩,
      fun p a rest hp ha hslot hserial => ⟨fun hnone => ?_, fun b hb hne hfits => ⟨fun hroom => ?_, fun hlack => ?_⟩⟩⟩⟩
    · rw [hrequest, blockRequest, h]
      dsimp only
      rw [hnil, poolAnswer]
      rfl
    · have hsome : s.pool.isEmpty = false := by
        cases hpool : s.pool with
        | nil => simp [hpool] at hb
        | cons x xs => rfl
      rw [hrequest, blockRequest, h]
      dsimp only
      rw [poolAnswer, if_neg (by simp [hsome])]
      dsimp only
      rw [hb]
      rfl
    · rw [extractionRow, he]
      dsimp only
      rw [hp, hrows]
      dsimp only
      rw [hr]
      rfl
    · rw [extractionRow_intact he hp hrows hr hbase, Working.setDown_empty hnone]
      simp only [Working.place, hp, hnone, List.append_nil]
      rfl
    · rw [extractionRow_intact he hp hrows hr hbase, Working.setDown_full hne hfull]
      simp only [Working.cutAt, hp]
      rfl
    · rw [extractionRow_intact he hp hrows hr hbase, Working.setDown_room hne hfits hroom]
      simp only [Working.place, hp]
      rfl
    · rw [extractionRow_intact he hp hrows hr hbase, Working.setDown_asks hne hfits hlack]
      rfl
    · rw [blockAnswer_taken he hp ha hslot hserial, hnone]
      dsimp only
      rw [dropBlockAnswer_cons ha]
      rfl
    · have hblocks : (w.records.length + p.records.length + 31) / 32 ≤ (w.blocks ++ [b]).length := by
        rw [List.length_append]
        exact hroom
      rw [blockAnswer_taken he hp ha hslot hserial, hb]
      dsimp only
      rw [dropBlockAnswer_cons ha, Working.granted, Working.setDown_room (w := { w with blocks := w.blocks ++ [b] }) hne hfits hblocks]
      rfl
    · have hblocks : (w.blocks ++ [b]).length < (w.records.length + p.records.length + 31) / 32 := by
        rw [List.length_append]
        exact hlack
      rw [blockAnswer_taken he hp ha hslot hserial, hb]
      dsimp only
      rw [dropBlockAnswer_cons ha, Working.granted, Working.setDown_asks (w := { w with blocks := w.blocks ++ [b] }) hne hfits hblocks, ← hp]
      rfl

end Sys2Proof.Machine
end

section
/-! SUPPORT. The readout units' news (O54) and the taking of session ends (O55). -/

-- One theorem at a time: the proofs of so long a text would each hold a thread.
set_option Elab.async false

namespace Sys2Proof.Machine

/-! ## News from the slot table -/

theorem dropReadoutIn_cons {s : State} {l : Link} {m : ReadoutMessage} {rest : List ReadoutMessage} (h : s.wires.readoutIn.get l = m :: rest) :
    s.dropReadoutIn l = { s with wires := { s.wires with readoutIn := s.wires.readoutIn.set l rest } } := by
  simp only [State.dropReadoutIn, State.modWires, h, List.tail_cons]

/-- R110: news is announced on the link whose fetch is applied, on the link of its source, and on both for any other source. -/
theorem announces_iff (l : Link) (source : Source) (applied : Option PendingFetch) : announces l source applied = true ↔
    applied.any (·.link == l) = true ∨ source = .line ∨ source = .auto ∨ source = .test ∨ (source = .linkA ∧ l = .A) ∨ (source = .linkB ∧ l = .B) := by
  have hown : ((applied.map (·.link)) == some l) = applied.any (·.link == l) := by
    cases applied <;> simp
  unfold announces
  rw [hown]
  cases source <;> cases l <;> simp

theorem takeApplied_eq (q : Readout) (l : Link) (i : Fin 8) (n : Nat) (fetch : Option PendingFetch) : q.takeApplied l i n fetch =
    if fetch.any (·.link == l) ∧ (i, n) ∈ q.reserved then
      { q with reserved := q.reserved.erase (i, n), queue := q.queue ++ [.delivery i n ((fetch.map (·.fromPart)).getD 0)] }
    else q := by
  cases fetch with
  | none => simp [Readout.takeApplied]
  | some f => simp [Readout.takeApplied]

/-- Settles O54. -/
theorem readoutUnitsTakeNews : Obligations.ReadoutUnitsTakeNews := by
  unfold Obligations.ReadoutUnitsTakeNews
  intro l s hpin q taken announced cutEntry cut
  have hready : exec (.readoutTakeReady l) s = .next (readoutTakeReady l s) := unlessHeld_free s hpin
  have hrelease : exec (.readoutTakeRelease l) s = .next (readoutTakeRelease l s) := unlessHeld_free s hpin
  have habort : exec (.readoutTakeAbort l) s = .next (readoutTakeAbort l s) := unlessHeld_free s hpin
  have hcut (i : Fin 8) (n : Nat) : q.takeRelease i n = cut i n := by
    have hentry : QueueEntry.cut i n = cutEntry i n := by
      funext x
      cases x <;> rfl
    rw [Readout.takeRelease, hentry]
    rfl
  rw [hready, hrelease, habort]
  refine ⟨fun i n source fetch rest h => ?_, fun i rest h => ?_, fun i n rest h => ?_, fun i n rest h => ?_⟩
  · have htaken : readoutTakeReady l s =
        if announces l source fetch then (taken rest (q.takeApplied l i n fetch)).modLink l (announced i) else taken rest (q.takeApplied l i n fetch) := by
      rw [readoutTakeReady, h]
      dsimp only
      rw [dropReadoutIn_cons h, State.notify_eq]
      rfl
    rw [htaken, takeApplied_eq]
    refine ⟨fun hfor => ?_, fun hnot => ?_⟩
    · rw [if_pos ((announces_iff l source fetch).2 hfor)]
    · rw [if_neg fun hyes => hnot ((announces_iff l source fetch).1 hyes)]
  · rw [readoutTakeReady, h]
    dsimp only
    rw [dropReadoutIn_cons h, State.notify_eq]
    have hsame : s.readouts.set l q = s.readouts := PerLink.set_get _ _
    simp only [taken, hsame]
    rfl
  · rw [readoutTakeRelease, h, ← hcut]
    dsimp only
    rw [dropReadoutIn_cons h]
    rfl
  · rw [readoutTakeAbort, h, ← hcut]
    dsimp only
    rw [dropReadoutIn_cons h]
    rfl

/-! ## The end of a session -/

/-- Settles O55. -/
theorem sessionEndsAreTaken : Obligations.SessionEndsAreTaken := by
  unfold Obligations.SessionEndsAreTaken
  intro l s hpin
  have htable : exec (.slotTableTakeSessionEnd l) s = .next (tableTakeSessionEnd l s) := unlessHeld_free s hpin
  have hreadout : exec (.readoutTakeSessionEnd l) s = .next (readoutTakeSessionEnd l s) := unlessHeld_free s hpin
  have hjournal : exec (.journalTakeSessionEnd l) s = .next (journalTakeSessionEnd l s) := unlessHeld_free s hpin
  rw [htable, hreadout, hjournal]
  refine ⟨fun h => by rw [tableTakeSessionEnd, if_pos h],
    fun h => ⟨Vector.ofFn fun i => s.table.slots[i].map (Capture.atSessionEnd l), by rw [tableTakeSessionEnd, if_neg h]; rfl, fun i => ?_⟩,
    fun h => by rw [readoutTakeSessionEnd, if_pos h], fun h => by rw [readoutTakeSessionEnd, if_neg h]; rfl, fun rest h => ?_⟩
  · simp only [Fin.getElem_fin, Vector.getElem_ofFn]
    rfl
  · have htaken : journalTakeSessionEnd l s = { s with
        journal := if (s.journal.subs.get l).isSome then s.journal.unsubscribe l s.journalNow else s.journal
        wires := { s.wires with journalLinkIn := s.wires.journalLinkIn.set l rest } } := by
      rw [journalTakeSessionEnd, h]
      simp only [State.dropJournalLinkIn, State.modWires, State.modJournal, h, List.tail_cons]
    rw [htaken]
    refine ⟨fun hnone => ?_, fun hsub hlast => ?_, fun y hsub hother => ?_⟩
    · rw [hnone]
      rfl
    · rw [if_pos (Option.isSome_iff_ne_none.2 hsub), Journal.unsubscribe_of_last hlast]
    · rw [if_pos (Option.isSome_iff_ne_none.2 hsub), Journal.unsubscribe_of_other hother]

end Sys2Proof.Machine
end

section
/-! SUPPORT. The receiver (O56), and what a sent frame calls for with the journal's frame and its completion (O60). -/

-- One theorem at a time: the proofs of so long a text would each hold a thread.
set_option Elab.async false

namespace Sys2Proof.Machine

/-- Settles O56. -/
theorem receiverTakesCharacters : Obligations.ReceiverTakesCharacters := by
  unfold Obligations.ReceiverTakesCharacters
  intro l s hpin
  dsimp only
  have hchar (c : Byte) : exec (.characterReceived l c) s = .next (s.modLink l fun k => k.takeCharacter c) :=
    unlessHeld_free (f := fun s => s.modLink l fun k => k.takeCharacter c) s hpin
  have hgap : exec (.gapTimeout l) s = .next (s.modLink l LinkState.gapTimeout) :=
    unlessHeld_free (f := fun s => s.modLink l LinkState.gapTimeout) s hpin
  have hframing (wasHigh : Bool) : exec (.characterFramingError l wasHigh) s = .next (s.modLink l fun k => k.framingError wasHigh) :=
    unlessHeld_free (f := fun s => s.modLink l fun k => k.framingError wasHigh) s hpin
  refine ⟨fun c => ?_, fun hk => ?_, fun hk => ?_, fun wasHigh => ⟨fun h => ?_, fun h hlow => ?_⟩⟩
  · rw [hchar]
    refine ⟨fun hk => ?_, fun hk hc => ?_, fun hk hc => ?_, fun len hk => ?_, fun len seq hk => ?_, fun len seq kind bytes hk => ?_,
      fun len seq kind bytes hk => ?_, fun len seq kind bytes high hk => ?_⟩ <;>
      refine congrArg _ (State.modLink_congr ?_) <;> rw [LinkState.takeCharacter, hk]
    · simp [Receiver.take, Received.go]
    · simp [Receiver.take, Received.go, hc]
    · simp [Receiver.take, Nat.not_le.2 hc]
    · simp [Receiver.take, Received.go]
    · simp only [Receiver.take, Received.go, bodyOrCheck]
      by_cases hlen : len.toNat = 0 <;> simp [hlen, Nat.pos_iff_ne_zero]
    · simp [Receiver.take, Received.go, bodyOrCheck]
    · simp [Receiver.take, Received.go]
    · simp [Receiver.take]
  · rw [hgap, State.modLink_id (f := LinkState.gapTimeout) (if_pos hk)]
  · rw [hgap]
    exact congrArg _ (State.modLink_congr (if_neg hk))
  · rw [hframing]
    exact congrArg _ (State.modLink_congr (if_pos h))
  · have hidle : ¬((s.links.get l).stretch = .high ∨ wasHigh = true) := by simp [h, hlow]
    rw [hframing, State.modLink_id (f := fun k => k.framingError wasHigh) (if_neg hidle)]

variable {l : Link} {s : State}

/-! ## The journal's frame (R136) -/

theorem Journal.frameSize_eq_zero {j : Journal} {x : Subscriber}
    (h : x.inFlight ≠ none ∨ j.entries.length < j.distance x.cursor ∨ 64 ≤ j.distance x.cursor - j.distance x.acked - 1) : j.frameSize x = 0 := by
  refine if_neg ?_
  simp only [Bool.and_eq_true, decide_eq_true_eq, Option.isNone_iff_eq_none, Journal.outstanding, Config.journalCredit]
  rintro ⟨⟨hnone, hheld⟩, hcredit⟩
  obtain h | h | h := h
  · exact h hnone
  · omega
  · exact Nat.not_lt.2 h (of_decide_eq_true hcredit)

theorem Journal.frameSize_eq {j : Journal} {x : Subscriber} (hnone : x.inFlight = none) (hheld : j.distance x.cursor ≤ j.entries.length)
    (hcredit : j.distance x.cursor - j.distance x.acked - 1 < 64) :
    j.frameSize x = min 16 (min (j.entries.length + 1 - j.distance x.cursor) (64 - (j.distance x.cursor - j.distance x.acked - 1))) :=
  if_pos (by simp [hnone, hheld, Journal.outstanding, Config.journalCredit, hcredit])

theorem Journal.frameSize_ne_zero {j : Journal} {x : Subscriber} (hnone : x.inFlight = none) (hheld : j.distance x.cursor ≤ j.entries.length)
    (hcredit : j.distance x.cursor - j.distance x.acked - 1 < 64) : j.frameSize x ≠ 0 := by
  rw [Journal.frameSize_eq hnone hheld hcredit]
  omega

theorem giveFrame_eq {x : Subscriber} {size : Nat} {w : Wires} (h : s.journal.frameSize x = size) : giveFrame l x { s with wires := w } =
    ({ s with
        wires := w
        journal := { s.journal with subs := s.journal.subs.set l (some { x with inFlight := some (x.cursor, size) }) } } : State).modLink l fun k =>
      k.takeDueRate.startFrame (.journalData x.cursor ((s.journal.entries.drop (s.journal.distance x.cursor - 1)).take size)) := by
  subst h
  rfl

theorem State.dropJournalLinkIn_cons {x : JournalMessage} {rest : List JournalMessage} (h : s.wires.journalLinkIn.get l = x :: rest) :
    s.dropJournalLinkIn l = { s with wires := { s.wires with journalLinkIn := s.wires.journalLinkIn.set l rest } } := by
  rw [State.dropJournalLinkIn, State.modWires, h]
  rfl

theorem LinkState.takeDueRate_eq (k : LinkState) : k.takeDueRate =
    { k with rate := k.rateDue.getD k.rate, receiver := if k.rateDue = none then k.receiver else .hunt, rateDue := none } := by
  cases h : k.rateDue with
  | none =>
    rw [LinkState.takeDueRate, h]
    cases k
    change _ = none at h
    subst h
    rfl
  | some r => rw [LinkState.takeDueRate, h] <;> rfl

/-! ## What a sent frame calls for (R175) -/

theorem exec_frameSent {x : Sending} (hpin : s.resetPin = false) (h : (s.links.get l).tx = .sending x) :
    exec (.frameSent l) s = .next (afterFrame l x.body (s.modLink l fun k => { k with tx := .idle })) := by
  rw [show exec (.frameSent l) s = unlessHeld (frameSent l) s from rfl, unlessHeld_free s hpin, frameSent, h]

theorem ResetCondition.sent_awaitsReply {keep : Bool} (h : s.device = .pending l keep .reply) :
    (if s.device.awaitsReply l then s.setDevice s.device.sent else s) = { s with device := .pending l keep .due } := by
  rw [if_pos (by simp [h, ResetCondition.awaitsReply]), h]
  rfl

theorem ResetCondition.awaitsReply_eq_false {d : ResetCondition} (h : ∀ keep, d ≠ .pending l keep .reply) : d.awaitsReply l = false := by
  unfold ResetCondition.awaitsReply
  split
  · next m keep => exact beq_eq_false_iff_ne.2 fun hm => h keep (hm ▸ rfl)
  · rfl

theorem ResetCondition.awaitsEnd_eq_false {d : ResetCondition} {n : Nat} (h : ∀ keep, d ≠ .pending l keep (.sessionEnd n)) :
    d.awaitsEnd l n = false := by
  unfold ResetCondition.awaitsEnd
  split
  · next m keep k =>
    refine Bool.and_eq_false_imp.2 fun hm => beq_eq_false_iff_ne.2 fun hk => h keep ?_
    rw [eq_of_beq hm, hk]
  · rfl

theorem LinkState.takeDueRate_some {k : LinkState} {r : Rate} (h : k.rateDue = some r) :
    k.takeDueRate = { k with rate := r, receiver := .hunt, rateDue := none } := by
  rw [LinkState.takeDueRate, h] <;> rfl

/-- Settles O60. -/
theorem framesSentCallForWhatTheyCarry : Obligations.FramesSentCallForWhatTheyCarry := by
  unfold Obligations.FramesSentCallForWhatTheyCarry
  intro l s hpin
  have htake : exec (.linkRateTakeUp l) s = .next (s.modLink l LinkState.takeFreeRate) := unlessHeld_free (f := linkRateTakeUp l) s hpin
  have hrequest : exec (.journalFrameRequest l) s = .next (journalFrameRequest l s) := unlessHeld_free s hpin
  have hcompletion : exec (.journalFrameCompletion l) s = .next (journalFrameCompletion l s) := unlessHeld_free s hpin
  refine ⟨fun x hx => ?_, fun hx => ?_, fun hline r hr => ?_, fun h => ?_, fun rest h => ?_, fun rest h => ?_⟩
  · dsimp only
    rw [exec_frameSent hpin hx]
    refine ⟨fun first entries hb => ?_, fun r hb => ⟨fun ha => ?_, fun n ha => ⟨fun h => ?_, fun hopen hmark => ?_⟩, fun rate ha => ?_,
      fun ha => ⟨fun keep h => ?_, fun h => ?_⟩⟩, fun reason n hb => ⟨fun keep h => ?_, fun h => ?_⟩, fun n hb => ?_, fun n hb => ?_,
      fun i n j records hb => ?_, fun i n status j hb => ?_⟩ <;> rw [hb]
    · rfl
    · rw [afterFrame, afterReply, ha]
    · rw [afterFrame, afterReply, ha]
      dsimp only
      rw [if_neg fun hend => h.elim (fun hn => hn (by simpa using hend.1)) fun hm => by simp [hm] at hend]
    · rw [afterFrame, afterReply, ha]
      dsimp only
      rw [if_pos (by simp [hopen, hmark])]
    · rw [afterFrame, afterReply, ha] <;> rfl
    · rw [afterFrame, afterReply, ha]
      exact congrArg _ (ResetCondition.sent_awaitsReply (s := s.modLink l fun k => { k with tx := .idle }) h)
    · rw [afterFrame, afterReply, ha]
      exact congrArg _ (if_neg (by simp [ResetCondition.awaitsReply_eq_false h]))
    · exact congrArg _ ((if_pos (by simp [h, ResetCondition.awaitsEnd])).trans (by rw [State.modLink_device, h] <;> rfl))
    · exact congrArg _ (if_neg (by simp [ResetCondition.awaitsEnd_eq_false h]))
    · rfl
    · rfl
    · rfl
    · rfl
  · rw [show exec (.frameSent l) s = unlessHeld (frameSent l) s from rfl, unlessHeld_free s hpin, frameSent]
    split
    · next x h => exact absurd h (hx x)
    · rfl
  · rw [htake]
    refine congrArg _ (State.modLink_congr ?_)
    rw [LinkState.takeFreeRate, if_neg (by simp [hline]), LinkState.takeDueRate_some hr]
  · rw [htake, State.modLink_id]
    rw [LinkState.takeFreeRate]
    split
    · rfl
    · next hline => rw [LinkState.takeDueRate, h.resolve_left hline]
  · have hleft := State.dropJournalLinkIn_cons h
    rw [hrequest, journalFrameRequest, h]
    dsimp only
    rw [hleft]
    refine ⟨fun hnone => ?_, fun x hx => ⟨fun hdeclined => ?_, fun hnone hheld hcredit => ?_⟩⟩
    · rw [hnone] <;> rfl
    · rw [hx]
      dsimp only
      rw [if_pos (Journal.frameSize_eq_zero hdeclined)] <;> rfl
    · rw [hx]
      dsimp only
      rw [if_neg (Journal.frameSize_ne_zero hnone hheld hcredit)]
      rw [giveFrame_eq (Journal.frameSize_eq hnone hheld hcredit)]
      refine congrArg _ (State.modLink_congr ?_)
      rw [LinkState.takeDueRate_eq]
  · have hleft := State.dropJournalLinkIn_cons h
    rw [hcompletion, journalFrameCompletion, h]
    dsimp only
    rw [hleft]
    have hcompleted : (({ s with wires := { s.wires with journalLinkIn := s.wires.journalLinkIn.set l rest } } : State).modJournal fun j =>
        j.setSub l ((j.subs.get l).map Subscriber.completed)) =
        { s with
          wires := { s.wires with journalLinkIn := s.wires.journalLinkIn.set l rest }
          journal := { s.journal with subs := s.journal.subs.set l ((s.journal.subs.get l).map Subscriber.completed) } } := rfl
    refine ⟨fun x first n hx hfly => ?_, fun hnone => ?_, fun x hx hfly => ?_⟩
    · rw [hcompleted, hx, Option.map_some, Subscriber.completed, hfly]
    · rw [hcompleted, hnone, Option.map_none, ← hnone, PerLink.set_get]
    · rw [hcompleted, hx, Option.map_some, Subscriber.completed, hfly, ← hx, PerLink.set_get]

end Sys2Proof.Machine
end

section
/-! SUPPORT. The ends of a session by a break and by the timeout (O58). -/

-- One theorem at a time: the proofs of so long a text would each hold a thread.
set_option Elab.async false

namespace Sys2Proof.Machine

variable {l : Link} {s : State} {n : Nat} {k : LinkState}

/-- The part with an ended session of link `l`, whose link was `k` (R173): the reset condition, the link, the hand-offs. -/
def State.sessionEnded (s : State) (l : Link) (r : SessionEndReason) (n : Nat) (k : LinkState) : State :=
  { s with device := s.device.atSessionEnd l n k.replies, links := s.links.set l (k.endSession n r), wires := s.wires.endSession l }

/-- The frames that waited are then taken on the CLOSED link (R168, R173). -/
theorem endSession_set (r : SessionEndReason) (h : k.session = some n) : endSession l r { s with links := s.links.set l k } =
    if k.waiting = [] then s.sessionEnded l r n k else handlerPump l k.waiting (s.sessionEnded l r n k) := by
  have hpump : endSession l r { s with links := s.links.set l k } = handlerPump l k.waiting (s.sessionEnded l r n k) := by
    simp [endSession, h, State.sessionEnded, State.modLink, State.modWires, State.setDevice, LinkState.endSession_eq]
  rw [hpump]
  split
  · next hw =>
    rw [hw]
    refine State.modLink_id ?_
    simp [State.sessionEnded, LinkState.endSession_eq, hw]
  · rfl

theorem lineBreaks_eq (wasHigh : Bool) (h : (s.links.get l).stretch ≠ .inBreak ∨ wasHigh = true) :
    lineBreaks l wasHigh s = endSession l .lineBreak { s with links := s.links.set l (s.links.get l).takeBreak } :=
  if_pos (by simpa [LinkState.breaks] using h)

theorem State.timedOut_iff : s.timedOut l = true ↔
    (s.links.get l).session ≠ none ∧ s.items.sessionTimeout ≠ 0 ∧ s.items.sessionTimeout ≤ (s.links.get l).sinceGood := by
  simp [State.timedOut, State.sessionOpen, Option.isSome_iff_ne_none, and_assoc]

/-- Settles O58. -/
theorem breakAndTimeoutEndTheSession : Obligations.BreakAndTimeoutEndTheSession := by
  unfold Obligations.BreakAndTimeoutEndTheSession
  intro l s hpin waiting thenTaken ended
  have hbreak (wasHigh : Bool) : exec (.lineBreak l wasHigh) s = .next (lineBreaks l wasHigh s) := unlessHeld_free s hpin
  have htimeout : exec (.sessionTimeout l) s = .next (sessionTimeout l s) := unlessHeld_free s hpin
  have hdevice (k : LinkState) (n : Nat) : (match s.device with
      | .pending m keep .reply =>
        if m = l ∧ k.replies.any (fun r => r.after == .carryOutReset) = true then .pending m keep (.sessionEnd n) else .pending m keep .reply
      | d => d) = s.device.atSessionEnd l n k.replies := by
    cases s.device with
    | normal => rfl
    | pending m keep w => cases w <;> simp [ResetCondition.atSessionEnd]
  have hended (reason : SessionEndReason) (n : Nat) (k : LinkState) (hw : k.waiting = waiting) (h : k.session = some n) :
      endSession l reason { s with links := s.links.set l k } = ended reason n k := by
    rw [endSession_set reason h, hw]
    show thenTaken (s.sessionEnded l reason n k) = thenTaken _
    rw [State.sessionEnded, ← hdevice, LinkState.endSession_eq]
    rfl
  have hwhole (reason : SessionEndReason) (n : Nat) (h : (s.links.get l).session = some n) :
      endSession l reason s = ended reason n (s.links.get l) := by
    rw [← hended reason n _ rfl h, PerLink.set_get]
  refine ⟨hwhole, ?_, fun h => ?_, fun n hopen hon hdue => ?_⟩
  · intro wasHigh broken
    refine ⟨fun h hlow => ?_, fun h => ⟨fun hclosed => ?_, fun n hopen => ?_⟩⟩
    · rw [hbreak, lineBreaks, if_neg (by simp [LinkState.breaks, h, hlow])]
    · rw [hbreak, lineBreaks_eq wasHigh h, endSession_closed _ (by simpa [LinkState.takeBreak] using hclosed)]
      rfl
    · rw [hbreak, lineBreaks_eq wasHigh h]
      exact congrArg _ (hended .lineBreak n broken rfl hopen)
  · refine htimeout.trans (congrArg _ (if_neg ?_))
    rw [State.timedOut_iff]
    rintro ⟨hopen, hon, hdue⟩
    obtain h | h | h := h
    · exact hopen h
    · exact hon h
    · omega
  · refine htimeout.trans (congrArg _ ((if_pos (State.timedOut_iff.2 ⟨?_, hon, hdue⟩)).trans (hwhole .timeout n hopen)))
    simp [hopen]

end Sys2Proof.Machine
end

section
/-! SUPPORT. The transmitter's choice (O59). -/

-- One theorem at a time: the proofs of so long a text would each hold a thread.
set_option Elab.async false

namespace Sys2Proof.Machine

variable {l : Link} {s : State} {k : LinkState}

/-! ## The order of R175 -/

theorem transmitChoose_chooses (hmay : (s.links.get l).mayChoose = true) (hdue : s.resetDueOn l = false) :
    transmitChoose l s = chooseFrame l { s with links := s.links.set l (s.links.get l).takeDueRate } :=
  if_pos (by simp [hmay, hdue])

theorem chooseFrame_end {reason : SessionEndReason} {n : Nat} (h : k.pendingEnd = some (reason, n)) :
    chooseFrame l { s with links := s.links.set l k } =
      { s with links := s.links.set l ({ k with pendingEnd := none }.startFrame (.sessionEnd reason n)) } := by
  simp [chooseFrame, h, State.modLink]

theorem chooseFrame_reply {r : Reply} {rest : List Reply} (hend : k.pendingEnd = none) (h : k.replies = r :: rest) :
    chooseFrame l { s with links := s.links.set l k } = { s with links := s.links.set l ({ k with replies := rest }.startFrame (.reply r)) } := by
  simp [chooseFrame, hend, h, State.modLink]

theorem Notices.isEmpty_iff (n : Notices) : n.isEmpty = true ↔ n = Notices.empty := by
  cases n
  simp [Notices.isEmpty, Notices.empty, and_assoc]

theorem chooseFrame_notice (hend : k.pendingEnd = none) (hreplies : k.replies = []) (h : k.notices ≠ Notices.empty) :
    chooseFrame l { s with links := s.links.set l k } =
      { s with links := s.links.set l ({ k with notices := Notices.empty }.startFrame (.notice k.notices)) } := by
  simp [chooseFrame, hend, hreplies, Notices.isEmpty_iff, h, State.modLink]

theorem chooseFrame_data (hend : k.pendingEnd = none) (hreplies : k.replies = []) (h : k.notices = Notices.empty) :
    chooseFrame l { s with links := s.links.set l k } = chooseData l { s with links := s.links.set l k } := by
  simp [chooseFrame, hend, hreplies, h, (Notices.isEmpty_iff _).2 rfl]

/-! ## What the readout unit gives (R112 to R115) -/

theorem State.delivered_eq_some {i : Fin 8} {n : Nat} {c : Capture} :
    s.delivered i n = some c ↔ s.slot i = some c ∧ c.serial = n ∧ c.phase.finished = true := by
  rw [State.delivered, Option.filter_eq_some_iff]
  cases hp : c.phase <;> simp [Phase.finished]

theorem State.delivered_eq_none {i : Fin 8} {n : Nat} :
    s.delivered i n = none ↔ ∀ c, ¬(s.slot i = some c ∧ c.serial = n ∧ c.phase.finished = true) := by
  simp only [← State.delivered_eq_some, Option.eq_none_iff_forall_ne_some, ne_eq]

theorem State.delivered_modReadout (f : Readout → Readout) (i : Fin 8) (n : Nat) : (s.modReadout l f).delivered i n = s.delivered i n := rfl

section
variable (hends : s.wires.readoutEnds.get l = 0)
include hends

theorem giveDelivery_current {d : Delivery} (h : (s.readouts.get l).current = some d) : giveDelivery l s = some (giveCurrent l d s) := by
  rw [giveDelivery, if_neg (by simp [hends]), h]

theorem giveDelivery_entry {x : QueueEntry} {rest : List QueueEntry} (hcurrent : (s.readouts.get l).current = none)
    (h : (s.readouts.get l).queue = x :: rest) :
    giveDelivery l s = some (giveEntry l x (s.modReadout l fun q => { q with queue := rest })) := by
  rw [giveDelivery, if_neg (by simp [hends]), hcurrent, h]

end

theorem giveDelivery_nothing (h : s.wires.readoutEnds.get l ≠ 0 ∨ ((s.readouts.get l).current = none ∧ (s.readouts.get l).queue = [])) :
    giveDelivery l s = none := by
  unfold giveDelivery
  split
  · rfl
  · next hends =>
    obtain ⟨hcurrent, hqueue⟩ := h.resolve_left hends
    rw [hcurrent, hqueue]

theorem askReadout_gives {q : Readout} {b : FrameBody}
    (h : giveDelivery l s = some (s.modReadout l fun _ => q, b)) :
    askReadout l s = { s with readouts := s.readouts.set l q, links := s.links.set l ((s.links.get l).startFrame b) } := by
  rw [askReadout, h]
  rfl

/-- Settles O59. -/
theorem transmitterChoosesInOrder : Obligations.TransmitterChoosesInOrder := by
  unfold Obligations.TransmitterChoosesInOrder
  intro l s hpin
  have hrow : exec (.transmitChoose l) s = .next (transmitChoose l s) := unlessHeld_free s hpin
  refine ⟨fun h => ?_, fun hmay hdue => ?_⟩
  · refine hrow.trans (congrArg _ (if_neg ?_))
    obtain h | h := h <;> simp [h]
  · intro k sending chooses
    have hk : k = (s.links.get l).takeDueRate := by
      simp only [k, LinkState.takeDueRate]
      cases (s.links.get l).rateDue <;> rfl
    have hchoose : exec (.transmitChoose l) s = .next (chooseFrame l { s with links := s.links.set l k }) := by
      rw [hrow, transmitChoose_chooses hmay hdue, hk]
    refine ⟨fun reason n hend => ?_, fun hend => ⟨fun r rest hreplies => ?_, fun hreplies => ⟨fun hnotices => ?_, fun hnotices =>
      ⟨fun hidle => ?_, fun hdeclined => ?_⟩⟩⟩⟩
    · refine hchoose.trans ?_
      rw [chooseFrame_end hend]
      rfl
    · refine hchoose.trans ?_
      rw [chooseFrame_reply hend hreplies]
      rfl
    · refine hchoose.trans ?_
      rw [chooseFrame_notice hend hreplies hnotices]
      rfl
    · rw [hchoose, chooseFrame_data hend hreplies hnotices, chooseData, PerLink.get_set_self, hidle]
      simp [askJournal, State.modLink, State.modWires]
    · have hask : exec (.transmitChoose l) s = .next (askReadout l { s with links := s.links.set l k }) := by
        rw [hchoose, chooseFrame_data hend hreplies hnotices, chooseData, PerLink.get_set_self, hdeclined]
      intro q gives held parts after
      have hgives (q : Readout) (b : FrameBody) (h : giveDelivery l { s with links := s.links.set l k } =
          some ({ s with links := s.links.set l k } |>.modReadout l fun _ => q, b)) : gives q b := by
        refine hask.trans ?_
        rw [askReadout_gives h]
        simp [sending]
        rfl
      clear_value gives
      have hcurrentFrame {d : Delivery} (hends : s.wires.readoutEnds.get l = 0) (hd : (s.readouts.get l).current = some d) :=
        giveDelivery_current (s := { s with links := s.links.set l k }) hends hd
      have hentryFrame {x : QueueEntry} {rest : List QueueEntry} (hends : s.wires.readoutEnds.get l = 0)
          (hcurrent : (s.readouts.get l).current = none) (hq : (s.readouts.get l).queue = x :: rest) :=
        giveDelivery_entry (s := { s with links := s.links.set l k }) hends hcurrent hq
      have hnone (i : Fin 8) (n : Nat) (h : ∀ c, ¬ held i n c) : State.delivered { s with links := s.links.set l k } i n = none :=
        State.delivered_eq_none.2 h
      have hsome (i : Fin 8) (n : Nat) (c : Capture) (h : held i n c) : State.delivered { s with links := s.links.set l k } i n = some c :=
        State.delivered_eq_some.2 h
      refine ⟨fun h => ?_, fun hends => ⟨fun d hd => ⟨fun status hnext => ?_, fun j hnext => ⟨fun h => ?_, fun c h => ?_⟩⟩, fun hcurrent =>
        ⟨fun i n rest hq => ?_, fun i n rest hq => ?_, fun i n from' rest hq => ⟨fun h => ?_, fun c h => ?_⟩⟩⟩⟩
      · refine hask.trans ?_
        rw [askReadout, giveDelivery_nothing (s := { s with links := s.links.set l k }) h]
        simp [State.modLink]
      · apply hgives
        refine (hcurrentFrame hends hd).trans ?_
        rw [giveCurrent, hnext]
        rfl
      · apply hgives
        refine (hcurrentFrame hends hd).trans ?_
        rw [giveCurrent, hnext]
        dsimp only
        rw [hnone d.slot d.serial h]
        rfl
      · apply hgives
        refine (hcurrentFrame hends hd).trans ?_
        rw [giveCurrent, hnext]
        dsimp only
        rw [hsome d.slot d.serial c h]
        rfl
      · apply hgives
        refine (hentryFrame hends hcurrent hq).trans ?_
        rfl
      · apply hgives
        refine (hentryFrame hends hcurrent hq).trans ?_
        rfl
      · apply hgives
        refine (hentryFrame hends hcurrent hq).trans ?_
        rw [giveEntry, State.delivered_modReadout, hnone i n h]
        rfl
      · apply hgives
        refine (hentryFrame hends hcurrent hq).trans ?_
        rw [giveEntry, State.delivered_modReadout, hsome i n c h]
        simp only [State.setCurrent, State.modReadout, PerLink.get_set_self, PerLink.set_set]
        rfl

end Sys2Proof.Machine
end

section
/-! SUPPORT. Complete frames, the frames that wait at the handler, and what the row of a command in hand does with them (O57). -/

-- One theorem at a time: the proofs of so long a text would each hold a thread.
set_option Elab.async false

namespace Sys2Proof.Machine

/-! ## What the owning blocks make of the frames that wait -/

/-- The part with its links replaced. -/
def State.withLinks (s : State) (k : PerLink LinkState) : State := { s with links := k }

/-- An owning block that neither reads nor changes the links. -/
def Owner.BlindToLinks (own : Owner) : Prop :=
  ∀ (s : State) (k : PerLink LinkState), own (s.withLinks k) = (own s).map fun x => (x.1.withLinks k, x.2)

section
variable (l : Link)

@[simp] theorem State.withLinks_wires (s : State) (k : PerLink LinkState) : (s.withLinks k).wires = s.wires := rfl

@[simp] theorem State.withLinks_engines (s : State) (k : PerLink LinkState) : (s.withLinks k).engines = s.engines := rfl

@[simp] theorem State.withLinks_injector (s : State) (k : PerLink LinkState) : (s.withLinks k).injector = s.injector := rfl

@[simp] theorem State.withLinks_time (s : State) (k : PerLink LinkState) : (s.withLinks k).time = s.time := rfl

@[simp] theorem State.withLinks_journal (s : State) (k : PerLink LinkState) : (s.withLinks k).journal = s.journal := rfl

@[simp] theorem State.withLinks_readouts (s : State) (k : PerLink LinkState) : (s.withLinks k).readouts = s.readouts := rfl

@[simp] theorem State.withLinks_journalEndDue (s : State) (k : PerLink LinkState) (l : Link) :
    (s.withLinks k).journalEndDue l = s.journalEndDue l := rfl

@[simp] theorem State.withLinks_capturesWait (s : State) (k : PerLink LinkState) : (s.withLinks k).capturesWait = s.capturesWait := rfl

@[simp] theorem State.withLinks_slot (s : State) (k : PerLink LinkState) (i : Fin 8) : (s.withLinks k).slot i = s.slot i := rfl

theorem takeOffer_withLinks (o : Offer) (s : State) (k : PerLink LinkState) :
    takeOffer o (s.withLinks k) = ((takeOffer o s).1.withLinks k, (takeOffer o s).2) := takeOffer_setLinks o s k

theorem orderDrop_withLinks (e : Engine) (i : Fin 8) (n : Nat) (s : State) (k : PerLink LinkState) :
    orderDrop e i n (s.withLinks k) = (orderDrop e i n s).withLinks k := by
  unfold orderDrop
  rw [State.withLinks_engines]
  split_ifs <;> rfl

theorem returnFromTable_withLinks (blocks : List Nat) (s : State) (k : PerLink LinkState) :
    (s.withLinks k).returnFromTable blocks = (s.returnFromTable blocks).withLinks k := by
  unfold State.returnFromTable
  split_ifs <;> rfl

theorem emptySlot_withLinks (i : Fin 8) (c : Capture) (s : State) (k : PerLink LinkState) :
    emptySlot i c (s.withLinks k) = (emptySlot i c s).withLinks k :=
  returnFromTable_withLinks c.blocks (s.modTable fun t => t.clear i) k

theorem abortWork_withLinks (i : Fin 8) (c : Capture) (s : State) (k : PerLink LinkState) :
    abortWork i c (s.withLinks k) = (abortWork i c s).withLinks k := by
  unfold abortWork
  cases c.phase with
  | extracting => exact (congrArg _ (orderDrop_withLinks _ _ _ _ _)).trans (orderDrop_withLinks _ _ _ _ _)
  | _ => rfl

theorem acceptAbort_withLinks (i : Fin 8) (c : Capture) (s : State) (k : PerLink LinkState) :
    acceptAbort i c (s.withLinks k) = (acceptAbort i c s).withLinks k := by
  rw [acceptAbort, abortWork_withLinks, emptySlot_withLinks]
  rfl

theorem acceptRelease_withLinks (i : Fin 8) (c : Capture) (s : State) (k : PerLink LinkState) :
    acceptRelease i c (s.withLinks k) = (acceptRelease i c s).withLinks k := by
  rw [acceptRelease, emptySlot_withLinks]
  rfl

theorem abortOwner_blind (slot force : Byte) : (abortOwner l slot force).BlindToLinks := by
  intro s k
  unfold abortOwner
  rw [State.withLinks_wires]
  simp only [State.withLinks_slot, acceptAbort_withLinks]
  cases readYesNo force with
  | none => split_ifs <;> rfl
  | some forced =>
    cases readSlot slot with
    | none => split_ifs <;> rfl
    | some i =>
      dsimp only
      cases s.slot i with
      | none => split_ifs <;> rfl
      | some c =>
        dsimp only
        split_ifs <;> rfl

theorem releaseOwner_blind (slot : Byte) (serial : BitVec 16) : (releaseOwner l slot serial).BlindToLinks := by
  intro s k
  unfold releaseOwner
  rw [State.withLinks_wires]
  simp only [State.withLinks_slot, acceptRelease_withLinks]
  cases readSlot slot with
  | none => split_ifs <;> rfl
  | some i =>
    dsimp only
    cases s.slot i with
    | none => split_ifs <;> rfl
    | some c =>
      dsimp only
      cases releaseRefusal l c serial.toNat <;> split_ifs <;> rfl

theorem deviceResetOwner_blind (keep : Byte) : (deviceResetOwner l keep).BlindToLinks := by
  intro s k
  unfold deviceResetOwner
  cases readYesNo keep <;> rfl

theorem slotStatusOwner_blind (slot : Byte) : (slotStatusOwner l slot).BlindToLinks := by
  intro s k
  unfold slotStatusOwner
  rw [State.withLinks_wires]
  cases readSlot slot <;> split_ifs <;> rfl

theorem tableTakeFetch_withLinks (i : Fin 8) (claim : Bool) (fromPart : Nat) (s : State) (k : PerLink LinkState) :
    tableTakeFetch l i claim fromPart (s.withLinks k) =
      ((tableTakeFetch l i claim fromPart s).1.withLinks k, (tableTakeFetch l i claim fromPart s).2) := by
  unfold tableTakeFetch fetchPending
  simp only [State.withLinks_slot]
  cases s.slot i with
  | none => rfl
  | some c =>
    dsimp only
    cases c.phase <;> dsimp only <;> split_ifs <;> rfl

theorem fetchOwner_blind (slot claim fromPart : Byte) : (fetchOwner l slot claim fromPart).BlindToLinks := by
  intro s k
  unfold fetchOwner
  rw [State.withLinks_wires, State.withLinks_readouts]
  simp only [tableTakeFetch_withLinks]
  cases readFetch slot claim fromPart with
  | none => split_ifs <;> rfl
  | some x =>
    dsimp only
    cases fetchRefusal (s.readouts.get l) x.1 <;> split_ifs <;> rfl

theorem subscribeOwner_blind (position : Byte) : (subscribeOwner l position).BlindToLinks := by
  intro s k
  unfold subscribeOwner
  rw [State.withLinks_journalEndDue, State.withLinks_journal]
  cases readPosition position with
  | none => split_ifs <;> rfl
  | some fromOldest =>
    dsimp only
    split_ifs <;> rfl

theorem ackOwner_blind (upTo : BitVec 32) : (ackOwner l upTo).BlindToLinks := by
  intro s k
  unfold ackOwner
  rw [State.withLinks_journalEndDue, State.withLinks_journal]
  cases s.journal.subs.get l with
  | none => split_ifs <;> rfl
  | some x =>
    dsimp only
    split_ifs <;> rfl

theorem rewindOwner_blind : (rewindOwner l).BlindToLinks := by
  intro s k
  unfold rewindOwner
  rw [State.withLinks_journalEndDue, State.withLinks_journal]
  cases s.journal.subs.get l <;> split_ifs <;> rfl

theorem unsubscribeOwner_blind : (unsubscribeOwner l).BlindToLinks := by
  intro s k
  unfold unsubscribeOwner
  rw [State.withLinks_journalEndDue, State.withLinks_journal]
  cases s.journal.subs.get l <;> split_ifs <;> rfl

theorem stopOwner_blind : stopOwner.BlindToLinks := by
  intro s k
  unfold stopOwner
  rw [State.withLinks_time]
  split_ifs <;> rfl

theorem startOwner_blind : startOwner.BlindToLinks := by
  intro s k
  have haccept : acceptStart (s.withLinks k) = (acceptStart s).withLinks k := acceptStart_setLinks s k
  unfold startOwner
  rw [State.withLinks_time, State.withLinks_capturesWait, haccept]
  split_ifs <;> rfl

theorem triggerOwner_blind (o : Offer) : (triggerOwner o).BlindToLinks := by
  intro s k
  unfold triggerOwner
  rw [takeOffer_withLinks]
  cases takeOffer o s with
  | mk t a => cases a <;> rfl

theorem testOwner_blind (channels : Bitmap) (delay width gap : BitVec 16) (count slot : Byte) (trigDelay label : BitVec 16) :
    (testOwner channels delay width gap count slot trigDelay label).BlindToLinks := by
  intro s k
  unfold testOwner
  rw [State.withLinks_injector, State.withLinks_time]
  cases readTest channels delay width gap count slot trigDelay label with
  | none => rfl
  | some f =>
    dsimp only
    cases f.slot with
    | none => split_ifs <;> rfl
    | some i =>
      have hoffer : offerTest f i (s.withLinks k) = ((offerTest f i s).1.withLinks k, (offerTest f i s).2) := by
        unfold offerTest
        rw [takeOffer_withLinks]
        cases takeOffer (testOffer f i) s with
        | mk t a => cases a <;> rfl
      dsimp only
      rw [hoffer]
      split_ifs <;> rfl

end

end Sys2Proof.Machine
end

section
/-! SUPPORT. The frames that wait at the handler while a command is in hand (O57). -/

-- One theorem at a time: the proofs of so long a text would each hold a thread.
set_option Elab.async false

namespace Sys2Proof.Machine

variable {s : State} {l : Link} {own : Owner} {c : Command}

/-- The part with these frames waiting at a link's handler. -/
def State.waitingAt (s : State) (l : Link) (fs : List GoodFrame) : State := s.modLink l fun k => { k with waiting := fs }

/-- An owning block that keeps the frames that wait at its link's handler, and does not look at them, while its command is in hand. -/
def Owner.KeepsWaiting (own : Owner) (l : Link) (c : Command) : Prop :=
  ∀ (s : State) (seq : Byte) (fs : List GoodFrame), (s.links.get l).inHand = some { seq := seq, command := c } →
    own (s.waitingAt l fs) = (own s).map fun x => (x.1.waitingAt l fs, x.2)

theorem Owner.BlindToLinks.keepsWaiting (h : own.BlindToLinks) : own.KeepsWaiting l c := by
  intro s seq fs _
  refine (h s _).trans ?_
  have hsame := h s s.links
  rw [show s.withLinks s.links = s from rfl] at hsame
  cases hown : own s with
  | none => rfl
  | some x =>
    rw [hown, Option.map_some, Option.some.injEq] at hsame
    have hlinks : x.1.links = s.links := congrArg (fun y : State × ReplyBody × AfterReply => y.1.links) hsame
    simp [State.waitingAt, State.modLink, State.withLinks, hlinks]

theorem byeOwner_keepsWaiting : (byeOwner l).KeepsWaiting l c := by
  intro s seq fs _
  simp [byeOwner, State.waitingAt, State.modLink, State.sessionNumber]

theorem pingOwner_keepsWaiting : (pingOwner l).KeepsWaiting l c := by
  intro s seq fs _
  simp [pingOwner, State.waitingAt, State.modLink, State.sessionNumber]

theorem helloOwner_keepsWaiting : (helloOwner l).KeepsWaiting l .hello := by
  intro s seq fs hin
  have hend : endSession l .rehello (s.waitingAt l fs) = (endSession l .rehello s).waitingAt l fs := by
    cases hs : (s.links.get l).session with
    | none => rw [endSession_closed _ hs, endSession_closed _ (by simpa [State.waitingAt] using hs)]
    | some n =>
      have hkeep (gs : List GoodFrame) : (LinkState.endSession { s.links.get l with waiting := gs } n .rehello).inHand.isSome = true := by
        simp [LinkState.endSession_inHand, keepHello, hin]
      rw [endSession_open _ hs, endSession_open (n := n) _ (by simpa [State.waitingAt] using hs)]
      simp only [State.waitingAt, State.modLink, State.modWires, State.setDevice, PerLink.get_set_self, PerLink.set_set, LinkState.pumped_inHand (hkeep _)]
      simp [LinkState.endSession_eq]
      rfl
  rw [helloOwner, hend]
  simp [State.waitingAt, State.modLink, LinkState.openSession, helloOwner]

theorem State.itemValue_waitingAt (s : State) (l : Link) (fs : List GoodFrame) (x : ItemId) : (s.waitingAt l fs).itemValue x = s.itemValue x := by
  cases x
  case linkCounts m =>
    by_cases hm : m = l
    · subst hm
      simp [State.itemValue, State.waitingAt, LinkState.countBytes]
    · simp [State.itemValue, State.waitingAt, PerLink.get_set, hm]
  all_goals rfl

theorem getOwner_keepsWaiting (id : BitVec 16) : (getOwner l id).KeepsWaiting l c := by
  intro s seq fs _
  unfold getOwner
  simp only [State.itemValue_waitingAt]
  cases ItemId.ofId id with
  | none => rfl
  | some x =>
    dsimp only
    rw [show (s.waitingAt l fs).journalEndDue l = s.journalEndDue l from rfl]
    split_ifs <;> rfl

theorem State.checkSet_waitingAt (s : State) (l m : Link) (fs : List GoodFrame) (id : BitVec 16) (v : List Byte) :
    (s.waitingAt l fs).checkSet m id v = s.checkSet m id v := by
  have hopen (n : Link) : (s.waitingAt l fs).sessionOpen n = s.sessionOpen n := by
    by_cases hn : n = l
    · subst hn
      simp [State.sessionOpen, State.waitingAt]
    · simp [State.sessionOpen, State.waitingAt, PerLink.get_set, hn]
  have hrefusal (x : ItemId) : (s.waitingAt l fs).setRefusal m x = s.setRefusal m x := by
    unfold State.setRefusal
    simp only [hopen]
    cases x <;> rfl
  unfold State.checkSet
  simp only [hrefusal]
  rfl

theorem afterSet_waitingAt (x : ItemId) (fs : List GoodFrame) (s : State) :
    afterSet l x (s.waitingAt l fs) = ((afterSet l x s).1.waitingAt l fs, (afterSet l x s).2) := by
  cases x
  case linkRate m =>
    unfold afterSet
    dsimp only
    by_cases hm : m = l
    · rw [if_pos hm, if_pos hm]
      rfl
    · rw [if_neg hm, if_neg hm]
      cases l <;> cases m
      case A.A => contradiction
      case B.B => contradiction
      all_goals rfl
  case sessionTimeout =>
    have hm : otherLink l ≠ l := by simp
    have hend : endIfOverdue (otherLink l) (s.waitingAt l fs) = (endIfOverdue (otherLink l) s).waitingAt l fs := by
      unfold endIfOverdue State.waitingAt
      rw [endSession_modLink hm, State.modLink_links, PerLink.get_set, if_neg hm, State.modLink_items]
      split_ifs <;> rfl
    rw [afterSet, hend]
    rfl
  all_goals rfl

theorem setOwner_keepsWaiting (id : BitVec 16) (v : List Byte) : (setOwner l id v).KeepsWaiting l c := by
  intro s seq fs _
  unfold setOwner
  rw [State.checkSet_waitingAt]
  cases s.checkSet l id v with
  | error code => rfl
  | ok x =>
    have hafter : afterSet l x.1 ((s.waitingAt l fs).setItems x.2) = _ := afterSet_waitingAt x.1 fs (s.setItems x.2)
    dsimp only
    rw [hafter]
    rfl

/-- Every host command has the row of its link, SEQ and command, with an owning block that keeps the frames that wait. -/
theorem exec_of_hostCommand_keepsWaiting {i : Instr} {seq : Byte} (h : hostCommand i = some (l, seq, c)) :
    ∃ own : Owner, (∀ s, exec i s = unlessHeld (commandRow l seq c own) s) ∧ own.KeepsWaiting l c := by
  cases i <;> simp only [hostCommand, Option.some.injEq, Prod.mk.injEq, reduceCtorEq] at h
  all_goals
    obtain ⟨rfl, rfl, rfl⟩ := h
    refine ⟨_, fun _ => rfl, ?_⟩
  case hello => exact helloOwner_keepsWaiting
  case bye => exact byeOwner_keepsWaiting
  case ping => exact pingOwner_keepsWaiting
  case get => exact getOwner_keepsWaiting _
  case set => exact setOwner_keepsWaiting _ _
  case deviceReset => exact (deviceResetOwner_blind _ _).keepsWaiting
  case start => exact startOwner_blind.keepsWaiting
  case stop => exact stopOwner_blind.keepsWaiting
  case snapshot => exact Owner.BlindToLinks.keepsWaiting fun _ _ => rfl
  case trigger => exact (triggerOwner_blind _).keepsWaiting
  case abort => exact (abortOwner_blind _ _ _).keepsWaiting
  case slotStatus => exact (slotStatusOwner_blind _ _).keepsWaiting
  case fetch => exact (fetchOwner_blind _ _ _ _).keepsWaiting
  case release => exact (releaseOwner_blind _ _ _).keepsWaiting
  case journalSubscribe => exact (subscribeOwner_blind _ _).keepsWaiting
  case journalAck => exact (ackOwner_blind _ _).keepsWaiting
  case journalRewind => exact (rewindOwner_blind _).keepsWaiting
  case journalUnsubscribe => exact (unsubscribeOwner_blind _).keepsWaiting
  case test => exact (testOwner_blind _ _ _ _ _ _ _ _).keepsWaiting
  case testCancel => exact Owner.BlindToLinks.keepsWaiting fun _ _ => rfl
  case faultsRead => exact Owner.BlindToLinks.keepsWaiting fun _ _ => rfl
  case faultsClear => exact Owner.BlindToLinks.keepsWaiting fun _ _ => rfl

end Sys2Proof.Machine
end

section
/-! SUPPORT. Complete frames judged, and the rows of the commands they carry (O57). -/

-- One theorem at a time: the proofs of so long a text would each hold a thread.
set_option Elab.async false

namespace Sys2Proof.Machine

variable {s t : State} {l : Link} {seq : Byte} {c : Command} {own : Owner} {k : LinkState} {f : GoodFrame} {resetting : Bool}

/-! ## The handler and the frames that wait -/

theorem LinkState.taken_setWaiting (k : LinkState) (resetting : Bool) (f : GoodFrame) (fs : List GoodFrame) :
    { k with waiting := fs }.taken resetting f = { k.taken resetting f with waiting := fs } := by
  unfold LinkState.taken LinkState.noticed
  dsimp only
  repeat' split
  all_goals rfl

theorem LinkState.pumped_setWaiting (k : LinkState) (resetting : Bool) (fs gs : List GoodFrame) :
    { k with waiting := gs }.pumped resetting fs = k.pumped resetting fs := by
  induction fs generalizing k with
  | nil => rfl
  | cons f rest ih =>
    rw [LinkState.pumped, LinkState.pumped, LinkState.taken_setWaiting, ih]

theorem State.waitingAt_self (s : State) (l : Link) : s.waitingAt l (s.links.get l).waiting = s := State.modLink_id rfl

/-- Whether frames wait or not, a command's answer is the same: they are taken after it (R168). -/
theorem finishCommand_waitingAt (kind : Byte) (b : ReplyBody) (a : AfterReply) (fs : List GoodFrame) (t : State) :
    finishCommand l seq kind b a (t.waitingAt l fs) = handlerPump l fs (finishCommand l seq kind b a (t.waitingAt l [])) := by
  rw [handlerPump_eq, finishCommand_eq, finishCommand_eq, State.waitingAt, State.waitingAt, State.modLink_modLink, State.modLink_modLink,
    State.modLink_modLink]
  refine State.modLink_congr ?_
  have hleft := LinkState.pumped_setWaiting (LinkState.queued { t.links.get l with inHand := none } { seq := seq, kind := kind, body := b, after := a })
    t.resetPending fs fs
  have hright := LinkState.pumped_setWaiting (LinkState.queued { t.links.get l with inHand := none } { seq := seq, kind := kind, body := b, after := a })
    t.resetPending fs []
  exact hleft.trans hright.symm

/-- What the row of the command in hand does (R168). -/
theorem commandRow_inHand (hin : (s.links.get l).inHand = some { seq := seq, command := c }) (hpending : s.resetPending = false) :
    commandRow l seq c own s = match own s with
      | none => s
      | some (t, b, a) => finishCommand l seq c.kind b a t := by
  rw [commandRow, if_pos hin, ownerTakes, if_pos hin, if_neg (by simp [hpending])] <;> rfl

theorem commandRow_inHand_resetting (hin : (s.links.get l).inHand = some { seq := seq, command := c }) (hpending : s.resetPending = true) :
    commandRow l seq c own s = finishCommand l seq c.kind (.refused .resetting) .nothing s := by
  rw [commandRow, if_pos hin, ownerTakes, if_pos hin, if_pos hpending]

/-- The row of a command that is not in hand, and is not in hand either once its frame has come: the frame's arrival is all. -/
theorem commandRow_arrival (hin : (s.links.get l).inHand ≠ some { seq := seq, command := c })
    (ht : ((goodFrame l { seq := seq, kind := c.kind, reading := .command c } s).links.get l).inHand ≠ some { seq := seq, command := c }) :
    commandRow l seq c own s = goodFrame l { seq := seq, kind := c.kind, reading := .command c } s := by
  rw [commandRow, if_neg hin, ownerTakes, if_neg ht]

/-- A row whose frame's arrival puts the command in hand is the row of the command in hand. -/
theorem commandRow_arrives (hin : (s.links.get l).inHand ≠ some { seq := seq, command := c })
    (ht : ((goodFrame l { seq := seq, kind := c.kind, reading := .command c } s).links.get l).inHand = some { seq := seq, command := c }) :
    commandRow l seq c own (goodFrame l { seq := seq, kind := c.kind, reading := .command c } s) = commandRow l seq c own s := by
  rw [commandRow, if_pos ht, commandRow, if_neg hin]

/-- A frame that comes while a command is in hand waits (R168). -/
theorem goodFrame_busy (hin : (s.links.get l).inHand ≠ none) :
    goodFrame l f s = s.modLink l fun k => { k.counted with waiting := (s.links.get l).waiting ++ [f] } := by
  rw [goodFrame_eq]
  refine State.modLink_congr ?_
  rw [LinkState.received, LinkState.pumped_inHand (by simpa [LinkState.counted, Option.isSome_iff_ne_none] using hin)]

/-- A frame that comes at a free handler is taken at once (R168). -/
theorem goodFrame_free (hin : (s.links.get l).inHand = none) (hw : (s.links.get l).waiting = []) :
    goodFrame l f s = s.modLink l fun k => k.counted.taken s.resetPending f := by
  rw [goodFrame_eq]
  exact State.modLink_congr (LinkState.received_free hin hw _ _)

/-- R168 cases 1 to 5 leave the handler free. -/
theorem LinkState.taken_inHand (hin : k.inHand = none)
    (h : 4 ≤ k.replies.length ∨ k.cache.map (·.seq) = some f.seq ∨ resetting = true ∨ (k.session.isSome = true ∧ k.byeMark = true) ∨
      (k.session = none ∧ f.kind ≠ 0x01#8)) : (k.taken resetting f).inHand = none := by
  by_cases hroom : 4 ≤ k.replies.length
  · rw [LinkState.taken_full hroom]
    exact hin
  by_cases hcache : k.cache.map (·.seq) = some f.seq
  · obtain ⟨r, hr, hseq⟩ := Option.map_eq_some_iff.1 hcache
    rw [LinkState.taken_cached (Nat.not_le.1 hroom) hr hseq]
    exact hin
  have hrest := (h.resolve_left hroom).resolve_left hcache
  cases resetting
  · obtain h | ⟨hopen, hbye⟩ | ⟨hclosed, hkind⟩ := hrest
    · simp at h
    · rw [LinkState.taken_bye (Nat.not_le.1 hroom) hcache hopen hbye]
      exact hin
    · rw [LinkState.taken_closed (Nat.not_le.1 hroom) hcache hclosed hkind]
      exact hin
  · rw [LinkState.taken_resetting (Nat.not_le.1 hroom) hcache]
    exact hin

/-! ## A complete frame -/

theorem frameReceived_good {x : RawFrame} {rest : List RawFrame} (h : (s.links.get l).complete = x :: rest) (hx : x.checks = true) :
    frameReceived l s = goodFrame l x.good (s.modLink l fun k => { k with complete := rest }) := by
  rw [frameReceived, h]
  dsimp only
  rw [if_pos hx]

theorem frameReceived_bad {x : RawFrame} {rest : List RawFrame} (h : (s.links.get l).complete = x :: rest) (hx : x.checks = false) :
    frameReceived l s = badFrame l (s.modLink l fun k => { k with complete := rest }) := by
  rw [frameReceived, h]
  dsimp only
  rw [if_neg (by simp [hx])]

theorem LinkState.noticed_rxError (k : LinkState) : (k.noticed fun n => { n with rxError := true }) =
    { k with notices := { k.notices with rxError := k.notices.rxError || k.session.isSome } } := by
  unfold LinkState.noticed
  cases hs : k.session.isSome
  · simp
  · simp

/-- R166: a frame whose check is wrong. -/
theorem badFrame_eq (l : Link) (s : State) : badFrame l s = s.modLink l fun k =>
    { k with
      counts := { k.counts with crc := wrap32 (k.counts.crc + 1) }
      notices := { k.notices with rxError := k.notices.rxError || k.session.isSome } } := by
  rw [badFrame, State.notify_eq, State.modLink_modLink]
  exact State.modLink_congr (LinkState.noticed_rxError _)

theorem handlerFree_modComplete (rest : List RawFrame) :
    handlerFree (s.modLink l fun k => { k with complete := rest }) l = handlerFree s l := by
  simp [handlerFree, State.modLink]

/-- R168 cases 6 to 8 at a handler that takes. -/
theorem goodFrame_judged (htakes : handlerTakes s l f.seq = true)
    (h : (s.links.get l).session.isSome = true ∧ (s.links.get l).byeMark = false ∨ (s.links.get l).session = none ∧ f.kind = 0x01#8) :
    goodFrame l f s = s.modLink l fun k => match f.reading with
      | .unknownKind => k.counted.queued (f.refusal .unknownKind)
      | .wrongLength => k.counted.queued (f.refusal .badLength)
      | .command c => { k.counted with inHand := some { seq := f.seq, command := c } } := by
  obtain ⟨hfree, hpending, hroom, hcache⟩ := handlerTakes_iff.1 htakes
  obtain ⟨-, hin, hw⟩ := handlerFree_iff.1 hfree
  rw [goodFrame_free hin hw, hpending]
  refine State.modLink_congr ?_
  rw [LinkState.taken_judged (k := (s.links.get l).counted) hroom hcache h] <;> rfl

section
variable (htakes : handlerTakes s l f.seq = true) (h : (s.links.get l).session.isSome = true ∧ (s.links.get l).byeMark = false)
include htakes h

/-- R168 case 6. -/
theorem goodFrame_unknownKind (hread : f.reading = .unknownKind) : goodFrame l f s = s.replied l f.seq f.kind (.refused .unknownKind) := by
  rw [goodFrame_judged htakes (.inl h), hread]
  simp [State.modLink, State.replied, State.answered, LinkState.answered, LinkState.queued, LinkState.counted, GoodFrame.refusal, h.1]

/-- R168 case 7. -/
theorem goodFrame_wrongLength (hread : f.reading = .wrongLength) : goodFrame l f s = s.replied l f.seq f.kind (.refused .badLength) := by
  rw [goodFrame_judged htakes (.inl h), hread]
  simp [State.modLink, State.replied, State.answered, LinkState.answered, LinkState.queued, LinkState.counted, GoodFrame.refusal, h.1]

end

theorem goodFrame_pump (l : Link) (f : GoodFrame) (s : State) :
    goodFrame l f s = handlerPump l ((s.links.get l).waiting ++ [f]) (s.modLink l LinkState.counted) := by
  rw [goodFrame_eq, handlerPump_eq, State.modLink_modLink]
  rfl

/-! ## The row of a command in hand -/

theorem goodFrame_busy_inHand (hin : (s.links.get l).inHand ≠ none) : ((goodFrame l f s).links.get l).inHand = (s.links.get l).inHand := by
  rw [goodFrame_busy hin, State.modLink_links, PerLink.get_set_self]
  rfl

/-- The row of the command in hand with frames that wait: its owning block's answer, and then the frames in their order. -/
theorem commandRow_waiting (hkeeps : own.KeepsWaiting l c) (hin : (s.links.get l).inHand = some { seq := seq, command := c })
    (hpending : s.resetPending = false) :
    (((commandRow l seq c own (s.waitingAt l [])).links.get l).inHand = none →
      commandRow l seq c own s = handlerPump l (s.links.get l).waiting (commandRow l seq c own (s.waitingAt l []))) ∧
    (((commandRow l seq c own (s.waitingAt l [])).links.get l).inHand ≠ none → commandRow l seq c own s = s) := by
  have hin' (fs : List GoodFrame) : ((s.waitingAt l fs).links.get l).inHand = some { seq := seq, command := c } := by simpa [State.waitingAt] using hin
  have hnone := hkeeps s seq [] hin
  have hself := hkeeps s seq (s.links.get l).waiting hin
  rw [State.waitingAt_self] at hself
  rw [commandRow_inHand hin hpending, commandRow_inHand (hin' []) hpending, hnone]
  cases hown : own s with
  | none => exact ⟨fun h => absurd (hin' []) (by simp [show ((s.waitingAt l []).links.get l).inHand = none from h]), fun _ => rfl⟩
  | some x =>
    obtain ⟨u, b, a⟩ := x
    rw [hown, Option.map_some, Option.some.injEq, Prod.mk.injEq] at hself
    constructor
    · intro _
      show finishCommand l seq c.kind b a u = handlerPump l _ (finishCommand l seq c.kind b a (u.waitingAt l []))
      rw [← finishCommand_waitingAt, ← hself.1]
    · intro h
      refine absurd ?_ h
      show ((finishCommand l seq c.kind b a (u.waitingAt l [])).links.get l).inHand = none
      rw [finishCommand_idle _ _ _ _ _ _ (by simp [State.waitingAt])]
      simp

theorem commandRow_resetting (hin : (s.links.get l).inHand = some { seq := seq, command := c }) (hpending : s.resetPending = true) :
    commandRow l seq c own s = handlerPump l (s.links.get l).waiting (s.modLink l fun k =>
      LinkState.queued { k with inHand := none } { seq := seq, kind := c.kind, body := .refused .resetting, after := .nothing }) := by
  rw [commandRow_inHand_resetting hin hpending, finishCommand_eq, handlerPump_eq, State.modLink_modLink]
  rfl

/-- A frame of a command that the handler passes on: the row of the command is the same before and after the frame has come. -/
theorem exec_passed_on {i : Instr} (htakes : handlerTakes s l seq = true) (hi : hostCommand i = some (l, seq, c))
    (h : (s.links.get l).session.isSome = true ∧ (s.links.get l).byeMark = false ∨ (s.links.get l).session = none ∧ c.kind = 0x01#8) :
    goodFrame l { seq := seq, kind := c.kind, reading := .command c } s =
        s.modLink l (fun k => { k.counted with inHand := some { seq := seq, command := c } }) ∧
      exec i (s.modLink l fun k => { k.counted with inHand := some { seq := seq, command := c } }) = exec i s := by
  have hcame : goodFrame l { seq := seq, kind := c.kind, reading := .command c } s =
      s.modLink l (fun k => { k.counted with inHand := some { seq := seq, command := c } }) :=
    goodFrame_judged (f := { seq := seq, kind := c.kind, reading := .command c }) htakes h
  obtain ⟨hpin, hin, -⟩ := handlerFree_iff.1 (handlerTakes_iff.1 htakes).1
  obtain ⟨own, hexec⟩ := exec_of_hostCommand hi
  refine ⟨hcame, ?_⟩
  rw [hexec, hexec, unlessHeld_free s hpin, unlessHeld_free (s := State.modLink s l _) hpin, ← hcame,
    commandRow_arrives (by simp [hin]) (by rw [hcame]; simp)]

/-- Settles O57. -/
theorem framesReceivedAreJudged : Obligations.FramesReceivedAreJudged := by
  unfold Obligations.FramesReceivedAreJudged
  refine ⟨fun l t => ⟨rfl, fun f rest => ⟨fun h => ?_, fun h => ?_, ?_⟩⟩, fun l s hpin => ?_⟩
  · rw [handlerPump, if_pos (Option.isSome_iff_ne_none.2 h)]
  · rw [handlerPump, if_neg (by simp [h])]
  · dsimp only
    intro hroom hcache hpending hjudged
    have htaken := LinkState.taken_judged hroom hcache hjudged
    rw [handlerTake_eq, hpending]
    refine ⟨fun h => ?_, fun h => ?_, fun c h => ?_⟩ <;> rw [h] at htaken <;> exact State.modLink_congr htaken
  · intro waiting
    have hreceived : exec (.frameReceived l) s = .next (frameReceived l s) := unlessHeld_free s hpin
    refine ⟨fun h hin i seq c hi => ?_, fun h => ?_, fun f rest h => ?_⟩
    · obtain ⟨own, hexec, hkeeps⟩ := exec_of_hostCommand_keepsWaiting hi
      have hbusy : (s.links.get l).inHand ≠ none := by simp [hin]
      simp only [hexec, unlessHeld_free s hpin]
      refine ⟨fun hne => ?_, fun heq => ?_⟩
      · have hother : (s.links.get l).inHand ≠ some { seq := seq, command := c } := by simpa [hin] using hne
        rw [commandRow_arrival hother (by rw [goodFrame_busy_inHand hbusy]; exact hother), goodFrame_busy hbusy]
      · rw [heq] at hin
        refine ⟨fun hp => ?_, fun hp t ht => ?_⟩
        · rw [commandRow_resetting hin hp]
          rfl
        · have hrow := commandRow_waiting hkeeps hin hp
          rw [unlessHeld_free (s := State.modLink s l _) hpin, Host.Outcome.next.injEq] at ht
          rw [State.waitingAt, ht] at hrow
          exact ⟨fun h => congrArg _ (hrow.1 h), fun h => congrArg _ (hrow.2 h)⟩
    · rw [hreceived, frameReceived, h]
    · refine ⟨by simp [RawFrame.checks], fun hx => ?_, ?_⟩
      · rw [hreceived, frameReceived_bad h hx, badFrame_eq, State.modLink_modLink]
      · intro left good
        have hgood (hx : f.checks = true) : exec (.frameReceived l) s = .next (goodFrame l good left) := by
          rw [hreceived, frameReceived_good h hx]
          rfl
        have hleft : left.links.get l = { s.links.get l with complete := rest } := by simp [left]
        have hcommand (c : Command) (hread : readFrame f.kind f.bytes = .command c) :
            c.kind = f.kind ∧ good = { seq := f.seq, kind := c.kind, reading := .command c } := by
          have hkind := (kind_body_of_readFrame hread).1.symm
          exact ⟨hkind, by simp only [good, hread, hkind]⟩
        have htakesLeft (htakes : handlerTakes s l f.seq = true) : handlerTakes left l f.seq = true := by
          rw [handlerTakes_iff] at htakes ⊢
          rw [hleft, show handlerFree left l = handlerFree s l from handlerFree_modComplete rest]
          exact htakes
        refine ⟨fun hx => ⟨?_, fun hbusy => ?_⟩, fun hx hfree c i hread hi => ⟨fun hcase => ?_, fun htakes hclosed hc => ?_⟩,
          fun hx hready => ⟨fun hread => ?_, fun hread => ?_, fun c hread => ?_⟩⟩
        · rw [hgood hx, goodFrame_pump, hleft]
        · rw [hgood hx, goodFrame_busy (by rw [hleft]; exact hbusy), hleft]
        · obtain ⟨hkind, heq⟩ := hcommand c hread
          obtain ⟨own, hexec⟩ := exec_of_hostCommand hi
          have hfreeLeft : handlerFree left l = true := (handlerFree_modComplete rest).trans hfree
          obtain ⟨-, hin, hw⟩ := handlerFree_iff.1 hfreeLeft
          have hnone : ((goodFrame l good left).links.get l).inHand = none := by
            rw [goodFrame_free hin hw, State.modLink_links, PerLink.get_set_self]
            refine LinkState.taken_inHand (k := (left.links.get l).counted) hin ?_
            rw [hleft]
            obtain hfull | hcached | hp | hbye | ⟨hclosed, hc⟩ := hcase
            · exact .inl hfull
            · exact .inr (.inl hcached)
            · exact .inr (.inr (.inl hp))
            · exact .inr (.inr (.inr (.inl hbye)))
            · exact .inr (.inr (.inr (.inr ⟨hclosed, fun h => hc (Command.eq_hello_of_kind (hkind.trans h))⟩)))
          rw [hgood hx, hexec, unlessHeld_free (s := left) hpin]
          rw [heq] at hnone ⊢
          rw [commandRow_arrival (by simp [hin]) (by simp [hnone])]
        · obtain ⟨hkind, heq⟩ := hcommand c hread
          subst hc
          have hpassed := exec_passed_on (htakesLeft htakes) hi (.inr ⟨by rw [hleft]; exact hclosed, rfl⟩)
          rw [hgood hx, heq, hpassed.1]
          exact ⟨rfl, hpassed.2⟩
        · obtain ⟨htakes, hopen⟩ := handlerReady_takes hready
          exact (hgood hx).trans (congrArg _ (goodFrame_unknownKind (htakesLeft htakes) (by rw [hleft]; exact hopen) hread))
        · obtain ⟨htakes, hopen⟩ := handlerReady_takes hready
          exact (hgood hx).trans (congrArg _ (goodFrame_wrongLength (htakesLeft htakes) (by rw [hleft]; exact hopen) hread))
        · obtain ⟨hkind, heq⟩ := hcommand c hread
          obtain ⟨htakes, hopen⟩ := handlerReady_takes hready
          have hpassed (i : Instr) (hi : hostCommand i = some (l, f.seq, c)) := exec_passed_on (htakesLeft htakes) hi (.inl (by rw [hleft]; exact hopen))
          have hcame := goodFrame_judged (f := good) (htakesLeft htakes) (.inl (by rw [hleft]; exact hopen))
          refine ⟨_, hgood hx, ?_, fun i hi => ?_⟩
          · rw [hcame]
            simp only [good, hread]
          · rw [heq, (hpassed i hi).1]
            exact (hpassed i hi).2

end Sys2Proof.Machine
end

section
/-! SUPPORT. One sample (O39, O43): what it makes of the part, of a channel, of a monitor and of the injector. -/

-- One theorem at a time: the proofs of so long a text would each hold a thread.
set_option Elab.async false

namespace Sys2Proof.Machine

variable {s : State} {pins : Bitmap} {senses : GroupSet}

/-! ## What a sample makes of the part -/

theorem State.samples_iff : s.samples = true ↔ s.time.running = true ∧ s.time.tick < 1099511627775 := by
  rw [State.samples, Bool.and_eq_true, decide_eq_true_eq]
  rfl

theorem State.channelAfter_eq (h : s.samples = true) (i : Fin 48) : s.channelAfter pins senses i = (s.channelSample pins senses i).1 := by
  simp [State.channelAfter, makeSample_cond, h, State.sampledCond]

theorem State.monitorAfter_eq (h : s.samples = true) (g : Fin 6) : s.monitorAfter pins senses g = (s.monitorSample senses g).1 := by
  simp [State.monitorAfter, makeSample_cond, h, State.sampledCond]

theorem filter_changesOf (i j : Fin 48) (r : ChannelRecord) (test : Bool) (kinds : List ChangeKind) :
    (changesOf j r test kinds).filter (fun x => x.channel == i) = if j = i then changesOf j r test kinds else [] := by
  unfold changesOf
  by_cases h : j = i <;> simp [List.filter_map, Function.comp_def, h]

/-- Of the lists of all indices, one is left when every other is emptied. -/
theorem flatMap_finRange_ite {α : Type} {n : Nat} (f : Fin n → List α) (i : Fin n) :
    (List.finRange n).flatMap (fun j => if j = i then f j else []) = f i := by
  obtain ⟨a, b, hab⟩ := List.append_of_mem (List.mem_finRange i)
  have hnodup := List.nodup_finRange n
  rw [hab, List.nodup_append, List.nodup_cons] at hnodup
  obtain ⟨-, ⟨hb, -⟩, ha⟩ := hnodup
  have hnone (l : List (Fin n)) (hl : i ∉ l) : l.flatMap (fun j => if j = i then f j else []) = [] := by
    rw [List.flatMap_eq_nil_iff]
    intro j hj
    exact if_neg fun e : j = i => hl (e ▸ hj)
  rw [hab, List.flatMap_append, List.flatMap_cons, hnone a (fun hi => ha i hi i (by simp) rfl), hnone b hb]
  simp

/-- The changes of one channel stand in the sample's list in their order (R20). -/
theorem State.changesAt_eq (i : Fin 48) : s.changesAt pins senses i = (s.channelSample pins senses i).2 := by
  unfold State.changesAt
  rw [State.conditioned]
  dsimp only
  rw [State.changeList, List.filter_flatMap]
  simp only [filter_changesOf]
  rw [flatMap_finRange_ite]
  simp [changesOf, Function.comp_def]

theorem makeSample_of_samples (h : s.samples = true) : makeSample pins senses s =
    ((((ringCatchUp s).modTime fun t => { t with tick := s.time.tick + 1 }).setCond (s.sampledCond pins senses (s.time.tick + 1))).setInjector
      s.injector.advance).modWires fun w => w.handSample (s.conditioned pins senses (s.time.tick + 1)) := if_pos h

theorem makeSample_idle (h : s.samples = false) : makeSample pins senses s = s := if_neg (by simp [h])

/-! ## The happenings inside a sample (log 6) -/

section
variable {f : State → State} {occurs : State → Bool} (hpin : s.resetPin = false)
include hpin

theorem unlessHeld_sampleWhen (h : occurs s = true) :
    unlessHeld (fun s => sampleWhen (occurs s) pins senses s) s = .next (makeSample pins senses s) := by
  rw [unlessHeld_free (f := fun s => sampleWhen (occurs s) pins senses s) s hpin, sampleWhen, if_pos h]

theorem unlessHeld_sampleWhen_not (h : occurs s = false) :
    unlessHeld (fun s => sampleWhen (occurs s) pins senses s) s = .next s := by
  rw [unlessHeld_free (f := fun s => sampleWhen (occurs s) pins senses s) s hpin, sampleWhen, if_neg (by simp [h])]

end

/-! ## The injector -/

theorem State.rawAt_injecting {run : TestRun} {pulse : Nat} {high : Bool} {n : Nat} (h : s.injector = .injecting run pulse high n) (i : Fin 48) :
    s.rawAt pins i = if run.channels.getLsbD i then high else pins.getLsbD i ^^ (s.recordOf i).invert := by
  rw [State.rawAt, Injector.covers, h, Injector.drive]
  dsimp only
  split_ifs <;> rfl

/-- Settles O43. -/
theorem injectionCountsDown : Obligations.InjectionCountsDown := by
  unfold Obligations.InjectionCountsDown
  intro pins senses s hpin hs
  have hafter : (makeSample pins senses s).injector = s.injector.advance := by
    rw [makeSample_of_samples hs]
    rfl
  have hdelay (h : s.delayExpires = true) : exec (.testDelayExpiry pins senses) s = .next (makeSample pins senses s) :=
    unlessHeld_sampleWhen (occurs := State.delayExpires) hpin h
  have hnodelay (h : s.delayExpires = false) : exec (.testDelayExpiry pins senses) s = .next s :=
    unlessHeld_sampleWhen_not (occurs := State.delayExpires) hpin h
  have hphase (h : s.phaseExpires = true) : exec (.testPhaseExpiry pins senses) s = .next (makeSample pins senses s) :=
    unlessHeld_sampleWhen (occurs := State.phaseExpires) hpin h
  have hnophase (h : s.phaseExpires = false) : exec (.testPhaseExpiry pins senses) s = .next s :=
    unlessHeld_sampleWhen_not (occurs := State.phaseExpires) hpin h
  dsimp only
  rw [hafter, show (s.conditioned pins senses (s.time.tick + 1)).test = s.injector.drive.isSome from rfl]
  refine ⟨fun h => ?_, fun run h => ?_, fun run n h hn => ?_, fun run pulse high n h => ?_⟩
  · rw [h]
    exact ⟨rfl, rfl⟩
  · refine ⟨hdelay (by simp [State.delayExpires, hs, h]), ?_⟩
    rw [h]
    exact ⟨rfl, rfl⟩
  · refine ⟨hnodelay (by simp [State.delayExpires, h, show ¬ n ≤ 1 by omega]), ?_⟩
    rw [h]
    exact ⟨if_neg (by omega), rfl⟩
  · refine ⟨by rw [h]; rfl, State.rawAt_injecting h, fun hn => ⟨hnophase ?_, ?_⟩, fun hn => ⟨hphase ?_, fun hlow => ?_, fun hhigh hp => ?_, fun hhigh hp => ?_⟩⟩
    · simp [State.phaseExpires, h, show ¬ n ≤ 1 by omega]
    · rw [h]
      exact if_pos (by omega)
    · simp [State.phaseExpires, hs, h, hn]
    · rw [h, Injector.advance, if_neg (by omega), if_neg (by simp [hlow])]
    · rw [h, Injector.advance, if_neg (by omega), if_pos hhigh, if_pos hp]
    · rw [h, Injector.advance, if_neg (by omega), if_pos hhigh, if_neg (by omega)]

end Sys2Proof.Machine
end

section
/-! SUPPORT. The conditioned sample (O39). -/

-- One theorem at a time: the proofs of so long a text would each hold a thread.
set_option Elab.async false

namespace Sys2Proof.Machine

/-! ## One channel at one sample -/

section
variable (ch : Channel) (r : ChannelRecord) (p : Profile) (raw lost covered : Bool)

/-- Stages 4 and 5 leave the record, the profile and the injected mark. -/
theorem Channel.work_keeps : (ch.work raw lost).1.record = ch.record ∧ (ch.work raw lost).1.profile = ch.profile ∧
    (ch.work raw lost).1.injected = ch.injected := by
  unfold Channel.work Channel.live
  dsimp only
  repeat' split
  all_goals exact ⟨rfl, rfl, rfl⟩

/-- R7: the injected mark after a sample. -/
theorem Channel.mark_injected : (ch.mark raw covered).injected = true ↔
    covered = true ∨ (ch.injected = true ∧ ¬(ch.holds = { chatter := false, supply := false, disabled := false } ∧ ch.level = raw ∧ ch.debounce = 0)) := by
  have hholds : ch.holds.any = false ↔ ch.holds = { chatter := false, supply := false, disabled := false } := by
    cases ch.holds with
    | mk a b d => cases a <;> cases b <;> cases d <;> simp [Holds.any]
  have hsettled : (!ch.holds.any && ch.level == raw && ch.debounce == 0) = true ↔
      ch.holds = { chatter := false, supply := false, disabled := false } ∧ ch.level = raw ∧ ch.debounce = 0 := by
    simp only [Bool.and_eq_true, Bool.not_eq_true', beq_iff_eq, hholds, and_assoc]
  rw [Channel.mark]
  dsimp only
  rw [Bool.or_eq_true, Bool.and_eq_true, Bool.not_eq_true', ← hsettled, Bool.not_eq_true]

end

section
variable {s : State} {pins : Bitmap} {senses : GroupSet} {i : Fin 48}

theorem State.channelSample_later (h : s.cond.firstDue = false) : s.channelSample pins senses i =
    ((((s.cond.channels[i].pickUp (s.recordOf i) (s.profileOf i)).work (s.rawAt pins i) (s.monitorSample senses (groupOf i)).1.lost).1.mark
        (s.rawAt pins i) (s.injector.covers i).isSome),
      ((s.cond.channels[i].pickUp (s.recordOf i) (s.profileOf i)).work (s.rawAt pins i) (s.monitorSample senses (groupOf i)).1.lost).2) := by
  rw [State.channelSample, Channel.sample, h]
  rfl

theorem State.channelSample_first (h : s.cond.firstDue = true) : s.channelSample pins senses i =
    (((s.cond.channels[i].pickUp (s.recordOf i) (s.profileOf i)).establish (s.rawAt pins i)).mark (s.rawAt pins i) (s.injector.covers i).isSome, []) := by
  rw [State.channelSample, Channel.sample, h]
  rfl

theorem State.monitorSample_first (h : s.cond.firstDue = true) (g : Fin 6) : s.monitorSample senses g = (s.cond.monitors[g], none) := by
  rw [State.monitorSample, h]
  rfl

/-- What a sample leaves of the raw value, the record, the profile (R5, R7). -/
theorem State.channelSample_keeps : (s.channelSample pins senses i).1.prevRaw = s.rawAt pins i ∧
    (s.channelSample pins senses i).1.record = s.recordOf i ∧ (s.channelSample pins senses i).1.profile = s.profileOf i := by
  cases h : s.cond.firstDue with
  | true =>
    rw [State.channelSample_first h]
    exact ⟨rfl, rfl, rfl⟩
  | false =>
    rw [State.channelSample_later h]
    obtain ⟨hrecord, hprofile, -⟩ := Channel.work_keeps (s.cond.channels[i].pickUp (s.recordOf i) (s.profileOf i)) (s.rawAt pins i)
      (s.monitorSample senses (groupOf i)).1.lost
    exact ⟨rfl, hrecord, hprofile⟩

/-- R7: the injected mark after a sample, by what the channel has become. -/
theorem State.channelSample_injected : (s.channelSample pins senses i).1.injected = true ↔
    (s.injector.covers i).isSome = true ∨ (s.cond.channels[i].injected = true ∧
      ¬((s.channelSample pins senses i).1.holds = { chatter := false, supply := false, disabled := false } ∧
        (s.channelSample pins senses i).1.level = s.rawAt pins i ∧ (s.channelSample pins senses i).1.debounce = 0)) := by
  cases h : s.cond.firstDue with
  | true =>
    rw [State.channelSample_first h]
    exact Channel.mark_injected _ _ _
  | false =>
    rw [State.channelSample_later h]
    have hinjected := (Channel.work_keeps (s.cond.channels[i].pickUp (s.recordOf i) (s.profileOf i)) (s.rawAt pins i)
      (s.monitorSample senses (groupOf i)).1.lost).2.2
    refine (Channel.mark_injected _ _ _).trans ?_
    rw [hinjected]
    rfl

theorem Injector.covers_isSome (x : Injector) (i : Fin 48) : (x.covers i).isSome = true ↔
    ∃ run pulse high remaining, x = .injecting run pulse high remaining ∧ run.channels.getLsbD i = true := by
  cases x with
  | idle => simp [Injector.covers, Injector.drive]
  | delay run n => simp [Injector.covers, Injector.drive]
  | injecting run pulse high n =>
    by_cases h : run.channels.getLsbD i = true <;> simp [Injector.covers, Injector.drive, h]

theorem Injector.drive_isSome (x : Injector) : x.drive.isSome = true ↔ ∃ run pulse high remaining, x = .injecting run pulse high remaining := by
  cases x <;> simp [Injector.drive]

/-! ## The conditioned sample -/

theorem State.supplyEvents_pairwise : ((s.supplyEvents senses).map (·.group)).Pairwise (· < ·) := by
  rw [List.pairwise_map, State.supplyEvents]
  refine List.Pairwise.filterMap _ (fun a b hab x hx y hy => ?_) (List.pairwise_lt_finRange 6)
  obtain ⟨_, -, rfl⟩ := Option.map_eq_some_iff.1 hx
  obtain ⟨_, -, rfl⟩ := Option.map_eq_some_iff.1 hy
  exact hab

theorem mem_changesOf {i : Fin 48} {r : ChannelRecord} {test : Bool} {kinds : List ChangeKind} {x : Change} (h : x ∈ changesOf i r test kinds) :
    x.channel = i ∧ x.test = test ∧ x.journal = r.journal ∧ x.alert = r.alert ∧ x.auto = r.auto := by
  obtain ⟨k, -, rfl⟩ := List.mem_map.1 h
  exact ⟨rfl, rfl, rfl, rfl, rfl⟩

theorem State.changeList_pairwise : ((s.changeList pins senses).map (·.channel)).Pairwise (· ≤ ·) := by
  rw [List.pairwise_map, State.changeList, List.pairwise_flatMap]
  constructor
  · intro i _
    refine List.pairwise_of_forall_mem_list fun x hx y hy => ?_
    rw [(mem_changesOf hx).1, (mem_changesOf hy).1]
  · refine (List.pairwise_lt_finRange 48).imp fun hij x hx y hy => ?_
    rw [(mem_changesOf hx).1, (mem_changesOf hy).1]
    exact hij.le

theorem State.conditioned_levels (tick : Nat) :
    (s.conditioned pins senses tick).levels.getLsbD i = (s.channelSample pins senses i).1.level := by
  rw [State.conditioned, Bitmap.getLsbD_ofChannels]

theorem State.conditioned_held (tick : Nat) :
    (s.conditioned pins senses tick).held.getLsbD i = (s.channelSample pins senses i).1.holds.any := by
  rw [State.conditioned, Bitmap.getLsbD_ofChannels]

end

/-! ## The hand-off -/

theorem makeSample_ringAppend {s : State} {pins : Bitmap} {senses : GroupSet} (hs : s.samples = true) (h : s.wires.ringIn ≠ []) :
    makeSample pins senses (ringAppend s) = makeSample pins senses s := by
  obtain ⟨c, rest, hc⟩ := List.exists_cons_of_ne_nil h
  obtain ⟨r, w, reads, e⟩ := ringAppend_only s
  rw [makeSample_of_samples hs, ringCatchUp_of_cons hc, e]
  exact makeSample_of_samples (s := { s with ring := r, wires := { s.wires with ringIn := w, reads := reads } }) hs

theorem Wires.handSample_eq (w : Wires) (c : Conditioned) (h : w.ringIn = []) : w.handSample c =
    { w with
      ringIn := [c]
      journalIn := w.journalIn ++ [.sample c]
      trigIn := w.trigIn ++ [.sample c]
      slotIn := w.slotIn ++ [.sample c]
      sampleFaults := if c.events.filter (·.lost) = [] then w.sampleFaults
        else w.sampleFaults ++ [(c.events.filter (·.lost)).map fun e => { kind := .supplyLost e.group, tick := c.tick }] } := by
  rw [Wires.handSample, h, Conditioned.faults]
  cases c.events.filter (·.lost) <;> rfl

/-- Settles O39. -/
theorem sampleIsMade : Obligations.SampleIsMade := by
  unfold Obligations.SampleIsMade
  intro pins senses s hpin
  have hrow (s : State) (hpin : s.resetPin = false) : exec (.sample pins senses) s = .next (makeSample pins senses s) := unlessHeld_free s hpin
  refine ⟨fun h => ?_, fun hrunning htick => ?_⟩
  · rw [hrow s hpin, makeSample_idle]
    rw [← Bool.not_eq_true, State.samples_iff]
    rintro ⟨hrunning, htick⟩
    obtain h | h := h
    · simp [hrunning] at h
    · omega
  · have hs : s.samples = true := State.samples_iff.2 ⟨hrunning, htick⟩
    intro tick c cond lost covered
    have hcovered (i : Fin 48) : covered i ↔ (s.injector.covers i).isSome = true := (Injector.covers_isSome s.injector i).symm
    have hchannel (i : Fin 48) : cond.channels[i] = (s.channelSample pins senses i).1 := by simp [cond, State.sampledCond]
    refine ⟨fun u hring hu => ?_, fun hring => ?_, rfl, rfl, rfl, Injector.drive_isSome _, State.changeList_pairwise, State.supplyEvents_pairwise,
      fun x hx => ?_, fun i => ⟨?_, ?_, ?_⟩, fun i => ?_, fun hfirst => ⟨?_, ?_, fun g => ?_, fun i => ?_⟩⟩
    · obtain rfl : ringAppend s = u := by
        have happend : exec .ringAppend s = .next (ringAppend s) := unlessHeld_free s hpin
        simpa [happend] using hu
      have hpin' : (ringAppend s).resetPin = false := by
        obtain ⟨r, w, reads, e⟩ := ringAppend_only s
        rw [e]
        exact hpin
      rw [hrow s hpin, hrow _ hpin', makeSample_ringAppend hs hring]
    · rw [hrow s hpin, makeSample_of_samples hs, ringCatchUp_of_nil hring]
      refine congrArg Host.Outcome.next ?_
      show ({ s with time := _, cond := _, injector := _, wires := s.wires.handSample c } : State) = _
      rw [Wires.handSample_eq _ _ hring]
      rfl
    · obtain ⟨i, -, hi⟩ := List.mem_flatMap.1 hx
      obtain ⟨rfl, htest, hfields⟩ := mem_changesOf hi
      rw [hcovered, htest, Bool.or_eq_true]
      exact ⟨Iff.rfl, hfields⟩
    · rw [hchannel, State.conditioned_levels]
    · rw [hchannel, State.conditioned_held]
    · rw [hchannel]
      exact State.channelSample_keeps
    · intro settled
      have hinjected : cond.channels[i].injected = true ↔ covered i ∨ s.cond.channels[i].injected = true ∧ ¬ settled := by
        rw [hcovered]
        simp only [settled, hchannel]
        exact State.channelSample_injected
      refine ⟨fun h => hinjected.2 (.inl h), fun h hset => ?_, fun h hset => ?_⟩
      · rw [← Bool.not_eq_true, hinjected]
        simp [h, hset]
      · rw [Bool.eq_iff_iff, hinjected]
        simp [h, hset]
    · show s.supplyEvents senses = []
      simp [State.supplyEvents, State.monitorSample_first hfirst]
    · show s.changeList pins senses = []
      simp [State.changeList, State.channelSample_first hfirst, changesOf]
    · simp [cond, State.sampledCond, State.monitorSample_first hfirst]
    · rw [hchannel, State.channelSample_first hfirst]
      exact ⟨rfl, rfl⟩

end Sys2Proof.Machine
end

section
/-! SUPPORT. Live processing (O40): debounce, the chatter window and the CHATTER hold of a channel that nothing holds. -/

-- One theorem at a time: the proofs of so long a text would each hold a thread.
set_option Elab.async false

namespace Sys2Proof.Machine

/-! ## Live processing (R8 to R10) -/

section
variable {ch : Channel} {raw lost : Bool}

theorem Channel.quietStep_live (h : ch.holds.chatter = false) (raw : Bool) : ch.quietStep raw = (false, ch.quiet) := if_pos (by simp [h])

theorem Channel.newHolds_live (hholds : ch.holds.any = false) (henabled : ch.record.enabled = true) : (ch.newHolds raw false).any = false := by
  have hchatter : ch.holds.chatter = false := by simp only [Holds.any, Bool.or_eq_false_iff] at hholds; exact hholds.1.1
  simp [Channel.newHolds, Holds.any, Channel.quietStep_live hchatter, henabled]

theorem Channel.work_live (hholds : ch.holds.any = false) (henabled : ch.record.enabled = true) : ch.work raw false = ch.live raw :=
  if_pos (by simp [hholds, Channel.newHolds_live hholds henabled])

theorem Channel.live_same (h : raw = ch.level) : ch.live raw = ({ ch with debounce := 0, window := ageWindow ch.window }, []) := if_pos h

variable (hne : raw ≠ ch.level)
include hne

theorem Channel.debounceDone_iff : ch.debounceDone raw = true ↔ ch.debounce + 1 = ch.profile.debounce := by
  simp [Channel.debounceDone, hne]

theorem Channel.live_waits (h : ch.debounce + 1 ≠ ch.profile.debounce) :
    ch.live raw = ({ ch with debounce := ch.debounce + 1, window := ageWindow ch.window }, []) := by
  rw [Channel.live, if_neg hne, if_neg (by rw [ch.debounceDone_iff hne]; exact h)]

variable (h : ch.debounce + 1 = ch.profile.debounce)
include h

theorem Channel.live_counted (hn : chatterReached ch.profile (countTransition ch.profile (ageWindow ch.window)) = false) : ch.live raw =
    ({ ch with level := raw, debounce := 0, window := countTransition ch.profile (ageWindow ch.window) }, [transitionKind raw]) := by
  rw [Channel.live, if_neg hne, if_pos ((ch.debounceDone_iff hne).2 h)]
  exact if_neg (by simp [hn])

theorem Channel.live_reached (hn : chatterReached ch.profile (countTransition ch.profile (ageWindow ch.window)) = true) : ch.live raw =
    ({ ch with
        level := raw
        debounce := 0
        window := none
        quiet := some ch.profile.chatterQuiet
        holds := { ch.holds with chatter := true } },
      [transitionKind raw, .hold .chatter]) := by
  rw [Channel.live, if_neg hne, if_pos ((ch.debounceDone_iff hne).2 h)]
  exact if_pos hn

/-- A level that follows its raw value reports its transition first, whether or not the transition brings CHATTER (R8, R10). -/
theorem Channel.live_follows : (ch.live raw).1.level = raw ∧ (ch.live raw).1.debounce = 0 ∧ (ch.live raw).2.head? = some (transitionKind raw) := by
  cases hn : chatterReached ch.profile (countTransition ch.profile (ageWindow ch.window)) with
  | false =>
    rw [Channel.live_counted hne h hn]
    exact ⟨rfl, rfl, rfl⟩
  | true =>
    rw [Channel.live_reached hne h hn]
    exact ⟨rfl, rfl, rfl⟩

end

/-! ## A channel in live processing at the next sample -/

section
variable {s : State} {pins : Bitmap} {senses : GroupSet} {i : Fin 48}

theorem State.channelSample_live (h : s.liveNext senses i) : s.channelSample pins senses i =
    (((s.cond.channels[i].pickUp (s.recordOf i) (s.profileOf i)).live (s.rawAt pins i)).1.mark (s.rawAt pins i) (s.injector.covers i).isSome,
      ((s.cond.channels[i].pickUp (s.recordOf i) (s.profileOf i)).live (s.rawAt pins i)).2) := by
  obtain ⟨⟨-, -, hlater⟩, hholds, henabled, hlost⟩ := h
  have hwork := Channel.work_live (ch := s.cond.channels[i].pickUp (s.recordOf i) (s.profileOf i)) (raw := s.rawAt pins i) hholds henabled
  rw [State.channelSample_later hlater, hlost, hwork]

theorem State.debounceCompletes_iff (hs : s.samples = true) : s.debounceCompletes i pins senses =
    (s.changesAt pins senses i).any fun k => k == .rise || k == .fall := by
  rw [State.debounceCompletes, hs, State.changesAt_eq, Bool.true_and]

end

theorem ageWindow_pickUp {ch : Channel} {r : ChannelRecord} {p : Profile} (h : ch.affected r p = true) :
    ageWindow (ch.pickUp r p).window = none := by
  have hw : (ch.pickUp r p).window = none := if_pos h
  rw [hw] <;> rfl

/-- Settles O40. -/
theorem levelFollowsAfterDebounce : Obligations.LevelFollowsAfterDebounce := by
  unfold Obligations.LevelFollowsAfterDebounce
  intro i pins senses s hlive ch p raw after affected debounce
  obtain ⟨hpin, hs, -⟩ := hlive.1
  have hsample := State.channelSample_live (pins := pins) hlive
  have hafter : after = ((ch.pickUp (s.recordOf i) p).live raw).1.mark raw (s.injector.covers i).isSome := by
    simp only [after, State.channelAfter_eq hs, hsample, ch, p, raw]
  have hchanges : s.changesAt pins senses i = ((ch.pickUp (s.recordOf i) p).live raw).2 := by rw [State.changesAt_eq, hsample]
  have hnone (h : s.changesAt pins senses i = []) : exec (.debounceComplete i pins senses) s = .next s :=
    unlessHeld_sampleWhen_not (occurs := fun s => s.debounceCompletes i pins senses) hpin (by rw [State.debounceCompletes_iff hs, h]; rfl)
  have hsome (h : (s.changesAt pins senses i).head? = some (transitionKind raw)) :
      exec (.debounceComplete i pins senses) s = .next (makeSample pins senses s) := by
    refine unlessHeld_sampleWhen (occurs := fun s => s.debounceCompletes i pins senses) hpin ?_
    obtain ⟨rest, hrest⟩ := List.head?_eq_some_iff.1 h
    rw [State.debounceCompletes_iff hs, hrest]
    cases raw <;> rfl
  have hkeeps := State.channelSample_keeps (pins := pins) (senses := senses) (s := s) (i := i)
  rw [← State.channelAfter_eq hs] at hkeeps
  refine ⟨hkeeps.2, fun hraw => ?_, fun hraw => ⟨fun hcount => ?_, fun hcount => ?_⟩⟩
  · have hl := Channel.live_same (ch := ch.pickUp (s.recordOf i) p) hraw
    rw [hl] at hafter hchanges
    rw [hafter]
    exact ⟨rfl, rfl, hchanges, fun h => ageWindow_pickUp h, hnone hchanges⟩
  · have hl := Channel.live_waits (ch := ch.pickUp (s.recordOf i) p) hraw hcount
    rw [hl] at hafter hchanges
    rw [hafter]
    exact ⟨rfl, rfl, hchanges, fun h => ageWindow_pickUp h, hnone hchanges⟩
  · have hfollows := Channel.live_follows (ch := ch.pickUp (s.recordOf i) p) hraw hcount
    have hhead : (s.changesAt pins senses i).head? = some (transitionKind raw) := by rw [hchanges]; exact hfollows.2.2
    have hcounted (hn : chatterReached p (countTransition p (ageWindow (ch.pickUp (s.recordOf i) p).window)) = false) :
        s.changesAt pins senses i = [transitionKind raw] ∧
          after.window = countTransition p (ageWindow (ch.pickUp (s.recordOf i) p).window) ∧ after.holds.any = false := by
      have hl := Channel.live_counted (ch := ch.pickUp (s.recordOf i) p) hraw hcount hn
      rw [hl] at hafter hchanges
      rw [hafter]
      exact ⟨hchanges, rfl, hlive.2.1⟩
    refine ⟨hsome hhead, by rw [hafter]; exact hfollows.1, by rw [hafter]; exact hfollows.2.1, hhead, fun hlimit => ?_, fun haffected hlimit => ?_⟩
    · have hwindow (w : Option ChatterWindow) : countTransition p w = none := if_pos hlimit
      simp only [hwindow] at hcounted
      exact hcounted rfl
    · have hwindow : countTransition p none = some { remaining := p.chatterWindow, count := 1 } := if_neg (by omega)
      rw [ageWindow_pickUp haffected, hwindow] at hcounted
      exact hcounted (decide_eq_false (by dsimp only; omega))

end Sys2Proof.Machine
end

section
/-! SUPPORT. The chatter window and the CHATTER hold (O41). -/

-- One theorem at a time: the proofs of so long a text would each hold a thread.
set_option Elab.async false

namespace Sys2Proof.Machine

section
variable {ch : Channel} {raw lost : Bool}

/-! ## The chatter window -/

/-- A sample at which the level does not follow ages the window (R9). -/
theorem Channel.live_ages (h : raw = ch.level ∨ ch.debounce + 1 ≠ ch.profile.debounce) : (ch.live raw).1.window = ageWindow ch.window := by
  by_cases hraw : raw = ch.level
  · rw [Channel.live_same hraw]
  · rw [Channel.live_waits hraw (h.resolve_left hraw)]

theorem ageWindow_last {w : ChatterWindow} (h : w.remaining = 1) : ageWindow (some w) = none := if_pos (by omega)

theorem ageWindow_running {w : ChatterWindow} (h : 2 ≤ w.remaining) : ageWindow (some w) = some { w with remaining := w.remaining - 1 } :=
  if_neg (by omega)

theorem Holds.chatterAdded {h : Holds} (hnone : h.any = false) : { h with chatter := true } = { chatter := true, supply := false, disabled := false } := by
  simp only [Holds.any, Bool.or_eq_false_iff] at hnone
  rw [hnone.1.2, hnone.2]

/-! ## The quiet countdown (R11) -/

section
variable (hchatter : ch.holds.chatter = true)
include hchatter

theorem Channel.quietStep_off (h : ch.profile.chatterLimit = 0) : ch.quietStep raw = (false, none) := by
  rw [Channel.quietStep, if_neg (by simp [hchatter]), if_pos h]

theorem Channel.quietStep_restarts (h : ch.profile.chatterLimit ≠ 0) (hraw : raw ≠ ch.prevRaw) :
    ch.quietStep raw = (true, some ch.profile.chatterQuiet) := by
  rw [Channel.quietStep, if_neg (by simp [hchatter]), if_neg h, if_pos (by simpa using hraw)]

theorem Channel.quietStep_counts {q : Nat} (h : ch.profile.chatterLimit ≠ 0) (hraw : raw = ch.prevRaw) (hq : ch.quiet = some q) (h2 : 2 ≤ q) :
    ch.quietStep raw = (true, some (q - 1)) := by
  rw [Channel.quietStep, if_neg (by simp [hchatter]), if_neg h, if_neg (by simp [hraw]), hq, if_neg (by simp only [Option.getD_some]; omega)] <;> rfl

theorem Channel.quietStep_ends (h : ch.profile.chatterLimit ≠ 0) (hraw : raw = ch.prevRaw) (hq : ch.quiet = some 1) :
    ch.quietStep raw = (false, none) := by
  rw [Channel.quietStep, if_neg (by simp [hchatter]), if_neg h, if_neg (by simp [hraw]), hq, if_pos (by simp)]

/-- CHATTER goes on: the level stays, and nothing is reported where it stays alone (R11, R17). -/
theorem Channel.work_chatterStays {q : Option Nat} (h : ch.quietStep raw = (true, q)) :
    (ch.work raw lost).1.holds.chatter = true ∧ (ch.work raw lost).1.quiet = q ∧ (ch.work raw lost).1.level = ch.level ∧
      (ch.record.enabled = true ∧ lost = false → (ch.work raw lost).2 = []) := by
  have hany : ch.holds.any = true := by simp [Holds.any, hchatter]
  have hafter : (ch.newHolds raw lost).any = true := by simp [Channel.newHolds, Holds.any, h]
  have hwork : ch.work raw lost = ({ ch with holds := ch.newHolds raw lost, quiet := q }, addedHolds ch.holds (ch.newHolds raw lost)) := by
    rw [Channel.work, if_neg (by simp [hany]), if_neg (by simp [hany]), if_pos hafter, h]
  rw [hwork]
  refine ⟨by simp [Channel.newHolds, h], rfl, rfl, ?_⟩
  rintro ⟨henabled, rfl⟩
  simp [addedHolds, Channel.newHolds, henabled]

/-- CHATTER goes: where no other reason stays, the channel takes up its raw value with a LIVE (R11, R19). -/
theorem Channel.work_chatterGoes (h : ch.quietStep raw = (false, none)) :
    (ch.work raw lost).1.holds.chatter = false ∧ (ch.work raw lost).1.quiet = none ∧
      (ch.record.enabled = true ∧ lost = false →
        (ch.work raw lost).1.holds.any = false ∧ (ch.work raw lost).1.level = raw ∧ (ch.work raw lost).2 = [.live raw (raw != ch.level)]) := by
  have hany : ch.holds.any = true := by simp [Holds.any, hchatter]
  have hwork : ch.work raw lost = if (ch.newHolds raw lost).any then
      ({ ch with holds := ch.newHolds raw lost, quiet := none }, addedHolds ch.holds (ch.newHolds raw lost))
    else
      ({ ch with holds := ch.newHolds raw lost, level := raw, debounce := 0, window := none, quiet := none }, [.live raw (raw != ch.level)]) := by
    rw [Channel.work, if_neg (by simp [hany]), if_neg (by simp [hany]), h]
  have hchatter' : (ch.newHolds raw lost).chatter = false := by simp [Channel.newHolds, h]
  rw [hwork]
  refine ⟨?_, ?_, ?_⟩
  · split_ifs <;> exact hchatter'
  · split_ifs <;> rfl
  · rintro ⟨henabled, rfl⟩
    have hafter : (ch.newHolds raw false).any = false := by
      rw [Holds.any, hchatter']
      simp [Channel.newHolds, henabled]
    rw [if_neg (by simp [hafter])]
    exact ⟨hafter, rfl, rfl⟩

end
end

/-! ## The rows -/

section
variable {s : State} {pins : Bitmap} {senses : GroupSet} {i : Fin 48}

theorem State.windowExpires_iff (h : s.liveNext senses i) : s.windowExpires i pins senses = true ↔
    (s.cond.channels[i].pickUp (s.recordOf i) (s.profileOf i)).window.map (·.remaining) = some 1 := by
  obtain ⟨⟨-, hs, hlater⟩, hholds, henabled, hlost⟩ := h
  have hafter := Channel.newHolds_live (ch := s.cond.channels[i].pickUp (s.recordOf i) (s.profileOf i)) (raw := s.rawAt pins i) hholds henabled
  have hlive : s.liveAt i pins senses = true := by
    rw [State.liveAt, hlost, hlater, show (Channel.pickUp _ (s.recordOf i) (s.profileOf i)).holds.any = false from hholds]
    change (!false && !false && !(Channel.newHolds _ (s.rawAt pins i) false).any) = true
    rw [hafter]
    rfl
  rw [State.windowExpires, hs, hlive, Bool.true_and, Bool.true_and, beq_iff_eq]

theorem State.quietExpires_iff (hs : s.samples = true) (hlater : s.cond.firstDue = false) (hchatter : s.cond.channels[i].holds.chatter = true) :
    s.quietExpires i pins = true ↔ (s.profileOf i).chatterLimit ≠ 0 ∧
      s.rawAt pins i = (s.cond.channels[i].pickUp (s.recordOf i) (s.profileOf i)).prevRaw ∧ s.cond.channels[i].quiet = some 1 := by
  have hheld : (s.cond.channels[i].pickUp (s.recordOf i) (s.profileOf i)).holds.chatter = true := hchatter
  rw [State.quietExpires, hs, hlater, hheld]
  simp only [Bool.not_false, Bool.true_and, Bool.and_eq_true, bne_iff_ne, beq_iff_eq, and_assoc]
  rfl

end

/-- Settles O41. -/
theorem chatterHoldsAndReleases : Obligations.ChatterHoldsAndReleases := by
  unfold Obligations.ChatterHoldsAndReleases
  intro i pins senses s ch r p raw after kind affected debounce window prev
  refine ⟨fun hlive => ?_, fun hlater hchatter => ?_⟩
  · obtain ⟨hpin, hs, -⟩ := hlive.1
    have hsample := State.channelSample_live (pins := pins) hlive
    have hafter : after = ((ch.pickUp r p).live raw).1.mark raw (s.injector.covers i).isSome := by
      simp only [after, State.channelAfter_eq hs, hsample, ch, p, raw, r]
    have hchanges : s.changesAt pins senses i = ((ch.pickUp r p).live raw).2 := by rw [State.changesAt_eq, hsample]
    have hexpires (h : window.map (·.remaining) = some 1) : exec (.chatterWindowExpiry i pins senses) s = .next (makeSample pins senses s) :=
      unlessHeld_sampleWhen (occurs := fun s => s.windowExpires i pins senses) hpin ((State.windowExpires_iff hlive).2 h)
    have hstays (h : window.map (·.remaining) ≠ some 1) : exec (.chatterWindowExpiry i pins senses) s = .next s :=
      unlessHeld_sampleWhen_not (occurs := fun s => s.windowExpires i pins senses) hpin
        (Bool.eq_false_iff.2 fun e => h ((State.windowExpires_iff hlive).1 e))
    have hages (h : raw = ch.level ∨ debounce + 1 ≠ p.debounce) : after.window = ageWindow window := by
      rw [hafter]
      exact Channel.live_ages (ch := ch.pickUp r p) h
    have hholds : ch.holds.any = false := hlive.2.1
    have hcounted {c : Option ChatterWindow} (hraw : raw ≠ ch.level) (hcount : debounce + 1 = p.debounce)
        (hc : countTransition p (ageWindow window) = c) (hn : chatterReached p c = false) :
        after.window = c ∧ after.holds.any = false ∧ s.changesAt pins senses i = [kind] := by
      subst hc
      have hl := Channel.live_counted (ch := ch.pickUp r p) hraw hcount hn
      rw [hl] at hafter hchanges
      rw [hafter]
      exact ⟨rfl, hholds, hchanges⟩
    have hrunning {w : ChatterWindow} (hlimit : 2 ≤ p.chatterLimit) (hw : window = some w) (h2 : 2 ≤ w.remaining) :
        countTransition p (ageWindow window) = some { remaining := w.remaining - 1, count := w.count + 1 } := by
      rw [hw, ageWindow_running h2]
      exact if_neg (by omega)
    refine ⟨fun w hw h1 => ⟨hexpires (by simp [hw, h1]), fun h => ?_⟩, fun w hw h2 => ⟨hstays ?_, fun h => ?_⟩, fun hw => ⟨hstays (by simp [hw]), fun h => ?_⟩,
      fun hraw hcount hlimit => ⟨fun hfresh => ?_, fun w hw h2 => ⟨fun hbelow => ?_, fun hreached => ?_⟩⟩⟩
    · rw [hages h, hw, ageWindow_last h1]
    · rw [hw, Option.map_some, ne_eq, Option.some.injEq]
      omega
    · rw [hages h, hw, ageWindow_running h2]
    · rw [hages h, hw] <;> rfl
    · have haged : ageWindow window = none := by
        obtain hw | ⟨w, hw, h1⟩ := hfresh
        · rw [hw] <;> rfl
        · rw [hw, ageWindow_last h1]
      have hcount1 : countTransition p (ageWindow window) = some { remaining := p.chatterWindow, count := 1 } := by
        rw [haged]
        exact if_neg (by omega)
      exact hcounted hraw hcount hcount1 (decide_eq_false (by dsimp only; omega))
    · exact hcounted hraw hcount (hrunning hlimit hw h2) (decide_eq_false hbelow)
    · have hn : chatterReached p (countTransition p (ageWindow window)) = true := by
        rw [hrunning hlimit hw h2]
        exact decide_eq_true hreached
      have hl := Channel.live_reached (ch := ch.pickUp r p) hraw hcount hn
      rw [hl] at hafter hchanges
      rw [hafter]
      exact ⟨rfl, rfl, rfl, Holds.chatterAdded hholds, hchanges⟩
  · obtain ⟨hpin, hs, hfirst⟩ := hlater
    have hsample := State.channelSample_later (pins := pins) (senses := senses) (i := i) hfirst
    have hafter : after = ((ch.pickUp r p).work raw (s.monitorSample senses (groupOf i)).1.lost).1.mark raw (s.injector.covers i).isSome := by
      simp only [after, State.channelAfter_eq hs, hsample, ch, p, raw, r]
    have hchanges : s.changesAt pins senses i = ((ch.pickUp r p).work raw (s.monitorSample senses (groupOf i)).1.lost).2 := by
      rw [State.changesAt_eq, hsample]
    have hexpires (h : p.chatterLimit ≠ 0 ∧ raw = prev ∧ ch.quiet = some 1) :
        exec (.quietCountdownExpiry i pins senses) s = .next (makeSample pins senses s) :=
      unlessHeld_sampleWhen (occurs := fun s => s.quietExpires i pins) hpin ((State.quietExpires_iff hs hfirst hchatter).2 h)
    have hgoesOn (h : ¬(p.chatterLimit ≠ 0 ∧ raw = prev ∧ ch.quiet = some 1)) : exec (.quietCountdownExpiry i pins senses) s = .next s :=
      unlessHeld_sampleWhen_not (occurs := fun s => s.quietExpires i pins) hpin
        (Bool.eq_false_iff.2 fun e => h ((State.quietExpires_iff hs hfirst hchatter).1 e))
    intro alone freed
    have hstays {q : Option Nat} (h : (ch.pickUp r p).quietStep raw = (true, q)) : after.holds.chatter = true ∧ after.quiet = q ∧
        after.level = ch.level ∧ (alone → s.changesAt pins senses i = []) := by
      rw [hafter, hchanges]
      exact Channel.work_chatterStays (ch := ch.pickUp r p) hchatter h
    have hgoes (h : (ch.pickUp r p).quietStep raw = (false, none)) : after.holds.chatter = false ∧ after.quiet = none ∧ freed := by
      simp only [freed]
      rw [hafter, hchanges]
      exact Channel.work_chatterGoes (ch := ch.pickUp r p) hchatter h
    refine ⟨fun hlimit => ?_, fun hlimit hraw => ?_, fun hlimit hraw => ⟨fun q hq h2 => ?_, fun hq => ⟨hexpires ⟨hlimit, hraw, hq⟩, ?_⟩⟩⟩
    · obtain ⟨h1, h2, h3⟩ := hgoes (Channel.quietStep_off (ch := ch.pickUp r p) hchatter hlimit)
      exact ⟨h1, h2, h3, hgoesOn fun h => h.1 hlimit⟩
    · obtain ⟨h1, h2, h3, h4⟩ := hstays (Channel.quietStep_restarts (ch := ch.pickUp r p) hchatter hlimit hraw)
      exact ⟨h1, h2, h3, h4, hgoesOn fun h => hraw h.2.1⟩
    · obtain ⟨h1, hquiet, h3, h4⟩ := hstays (Channel.quietStep_counts (ch := ch.pickUp r p) hchatter hlimit hraw hq h2)
      refine ⟨h1, hquiet, h3, h4, hgoesOn fun h => ?_⟩
      have h1 := Option.some.inj (hq.symm.trans h.2.2)
      omega
    · exact hgoes (Channel.quietStep_ends (ch := ch.pickUp r p) hchatter hlimit hraw hq)

end Sys2Proof.Machine
end

section
/-! SUPPORT. Supply loss and DISABLED (O42): the supply monitors, and the hold reasons they bring and take away. -/

-- One theorem at a time: the proofs of so long a text would each hold a thread.
set_option Elab.async false

namespace Sys2Proof.Machine

/-! ## One monitor at one sample (R14 to R16) -/

section
variable (m : Monitor) {monitored present : Bool} {loss back : Nat}

/-- A monitor reports exactly a change of its status. -/
theorem Monitor.sample_event : (m.sample monitored present loss back).2 =
    if (m.sample monitored present loss back).1.lost = m.lost then none else some (m.sample monitored present loss back).1.lost := by
  obtain ⟨lost, absent, returned⟩ := m
  unfold Monitor.sample
  cases monitored <;> cases lost <;> cases present
  all_goals simp [Monitor.reset]
  all_goals split_ifs <;> simp_all

theorem Monitor.sample_unmonitored : (m.sample false present loss back).1 = { lost := false, absent := 0, present := 0 } := rfl

variable {m}

theorem Monitor.sample_ok_supplied (h : m.lost = false) : (m.sample true true loss back).1 = { m with absent := 0 } := by
  simp [Monitor.sample, h]

theorem Monitor.sample_ok_absent (h : m.lost = false) (hcount : m.absent + 1 < loss) :
    (m.sample true false loss back).1 = { m with absent := m.absent + 1 } := by
  simp [Monitor.sample, h, Nat.not_le.2 hcount]

theorem Monitor.sample_loses (h : m.lost = false) (hcount : loss ≤ m.absent + 1) :
    (m.sample true false loss back).1 = { lost := true, absent := 0, present := 0 } := by
  simp [Monitor.sample, h, hcount, Monitor.reset]

theorem Monitor.sample_lost_absent (h : m.lost = true) : (m.sample true false loss back).1 = { m with present := 0 } := by
  simp [Monitor.sample, h]

theorem Monitor.sample_lost_supplied (h : m.lost = true) (hcount : m.present + 1 < back) :
    (m.sample true true loss back).1 = { m with present := m.present + 1 } := by
  simp [Monitor.sample, h, Nat.not_le.2 hcount]

theorem Monitor.sample_returns (h : m.lost = true) (hcount : back ≤ m.present + 1) :
    (m.sample true true loss back).1 = { lost := false, absent := 0, present := 0 } := by
  simp [Monitor.sample, h, hcount, Monitor.reset]

end

/-! ## The hold reasons of a channel (R17 to R19) -/

section
variable {ch : Channel} {raw lost : Bool}

theorem Channel.newHolds_held (h : lost = true ∨ ch.record.enabled = false) : (ch.newHolds raw lost).any = true := by
  obtain h | h := h <;> simp [Channel.newHolds, Holds.any, h]

theorem Channel.live_holds (raw : Bool) : (ch.live raw).1.holds.supply = ch.holds.supply ∧ (ch.live raw).1.holds.disabled = ch.holds.disabled := by
  unfold Channel.live
  dsimp only
  repeat' split
  all_goals exact ⟨rfl, rfl⟩

/-- SUPPLY holds a channel while its group is LOST, DISABLED while its enabled field is no (R18). -/
theorem Channel.work_reasons : (ch.work raw lost).1.holds.supply = lost ∧ (ch.work raw lost).1.holds.disabled = !ch.record.enabled := by
  unfold Channel.work
  dsimp only
  split
  · next h =>
    simp only [Bool.and_eq_true, Bool.not_eq_true', Holds.any, Bool.or_eq_false_iff, Channel.newHolds] at h
    obtain ⟨⟨⟨-, hsupply⟩, hdisabled⟩, ⟨-, hlost⟩, henabled⟩ := h
    obtain ⟨h1, h2⟩ := ch.live_holds raw
    rw [h1, h2, hsupply, hdisabled, hlost, henabled]
    exact ⟨rfl, rfl⟩
  · split_ifs <;> exact ⟨rfl, rfl⟩

/-- A channel that a reason goes on holding, or begins to hold (R17). -/
theorem Channel.work_held (h : lost = true ∨ ch.record.enabled = false) : (ch.work raw lost).1.level = ch.level ∧
    (ch.holds.any = false → (ch.work raw lost).1.debounce = 0 ∧ (ch.work raw lost).1.window = none) ∧
    (ch.work raw lost).2 = (if lost = true ∧ ch.holds.supply = false then [.hold .supply] else [])
      ++ (if ch.record.enabled = false ∧ ch.holds.disabled = false then [.hold .disabled] else []) := by
  have hafter := Channel.newHolds_held (raw := raw) h
  have hadded : addedHolds ch.holds (ch.newHolds raw lost) = (if lost = true ∧ ch.holds.supply = false then [.hold .supply] else [])
      ++ (if ch.record.enabled = false ∧ ch.holds.disabled = false then [.hold .disabled] else []) := by
    simp [addedHolds, Channel.newHolds]
  rw [← hadded, Channel.work]
  cases hbefore : ch.holds.any <;> simp [hafter]

/-- A channel freed from its last reason (R19). -/
theorem Channel.work_freed (hchatter : ch.holds.chatter = false) (henabled : ch.record.enabled = true) (hheld : ch.holds.any = true) :
    ch.work raw false = ({ ch with holds := ch.newHolds raw false, level := raw, debounce := 0, window := none, quiet := none },
      [.live raw (raw != ch.level)]) ∧ (ch.newHolds raw false).any = false := by
  have hafter : (ch.newHolds raw false).any = false := by simp [Channel.newHolds, Holds.any, Channel.quietStep_live hchatter, henabled]
  exact ⟨by simp [Channel.work, hheld, hafter], hafter⟩

end

/-! ## The supply events of a sample -/

section
variable {s : State} {pins : Bitmap} {senses : GroupSet} {g : Fin 6}

theorem State.monitorSample_later (h : s.cond.firstDue = false) (g : Fin 6) : s.monitorSample senses g =
    s.cond.monitors[g].sample (s.items.supplyMonitor.getLsbD g) (senses.getLsbD g) s.items.supplyLossTicks s.items.supplyReturnTicks := by
  rw [State.monitorSample, h]
  rfl

/-- The events of one group in a sample: its monitor's, if it reports one (R20). -/
theorem State.supplyEvents_filter : (s.supplyEvents senses).filter (fun e => e.group == g) =
    ((s.monitorSample senses g).2.map fun lost => { group := g, lost := lost }).toList := by
  have hone (j : Fin 6) : ((s.monitorSample senses j).2.map fun lost => ({ group := j, lost := lost } : SupplyEvent)).toList.filter (fun e => e.group == g) =
      if j = g then ((s.monitorSample senses j).2.map fun lost => ({ group := j, lost := lost } : SupplyEvent)).toList else [] := by
    cases (s.monitorSample senses j).2 <;> by_cases h : j = g <;> simp [h]
  rw [State.supplyEvents, List.filterMap_eq_flatMap_toList, List.filter_flatMap]
  simp only [hone]
  rw [flatMap_finRange_ite]

theorem State.supplyReports_iff (hs : s.samples = true) (hmonitor : s.items.supplyMonitor.getLsbD g = true) (b : Bool) :
    s.supplyReports g senses b = true ↔ (s.monitorSample senses g).2 = some b := by
  simp [State.supplyReports, hs, hmonitor]

end

/-- Settles O42. -/
theorem supplyLossHoldsItsGroup : Obligations.SupplyLossHoldsItsGroup := by
  unfold Obligations.SupplyLossHoldsItsGroup
  intro g pins senses s hlater m after events ok
  obtain ⟨hpin, hs, hfirst⟩ := hlater
  have hmonitor : s.monitorSample senses g =
      m.sample (s.items.supplyMonitor.getLsbD g) (senses.getLsbD g) s.items.supplyLossTicks s.items.supplyReturnTicks := State.monitorSample_later hfirst g
  have hafter : after = (m.sample (s.items.supplyMonitor.getLsbD g) (senses.getLsbD g) s.items.supplyLossTicks s.items.supplyReturnTicks).1 := by
    rw [← hmonitor]
    exact State.monitorAfter_eq hs g
  have hevent : (s.monitorSample senses g).2 = if after.lost = m.lost then none else some after.lost := by
    rw [hmonitor, hafter]
    exact Monitor.sample_event m
  have hevents : events.filter (fun e => e.group == g) = if after.lost = m.lost then [] else [{ group := g, lost := after.lost }] := by
    refine State.supplyEvents_filter.trans ?_
    rw [hevent]
    split_ifs <;> rfl
  have hmem {b : Bool} (hb : after.lost = b) (hm : m.lost = !b) : ({ group := g, lost := b } : SupplyEvent) ∈ events := by
    rw [hb, hm, if_neg (by simp)] at hevents
    exact List.mem_of_mem_filter (hevents ▸ List.mem_singleton.2 rfl)
  have hreports (hmonitored : s.items.supplyMonitor.getLsbD g = true) (b : Bool) :
      s.supplyReports g senses b = true ↔ after.lost = b ∧ m.lost = !b := by
    rw [State.supplyReports_iff hs hmonitored, hevent]
    cases after.lost <;> cases m.lost <;> cases b <;> simp
  have hoccurs (b : Bool) (h : s.supplyReports g senses b = true) :
      unlessHeld (fun s => sampleWhen (s.supplyReports g senses b) pins senses s) s = .next (makeSample pins senses s) :=
    unlessHeld_sampleWhen (occurs := fun s => s.supplyReports g senses b) hpin h
  have hquiet (b : Bool) (h : ¬ s.supplyReports g senses b = true) :
      unlessHeld (fun s => sampleWhen (s.supplyReports g senses b) pins senses s) s = .next s :=
    unlessHeld_sampleWhen_not (occurs := fun s => s.supplyReports g senses b) hpin (Bool.eq_false_iff.2 h)
  refine ⟨fun i hi => ?_, hevents, fun hunmonitored => ?_, fun hmonitored => ⟨fun hok => ?_, fun hlost => ?_⟩⟩
  · intro ch next disabled
    have hgroup : groupOf i = g := Fin.ext hi
    have hsample := State.channelSample_later (pins := pins) (senses := senses) (i := i) hfirst
    have hsupply : (s.monitorSample senses (groupOf i)).1.lost = after.lost := by
      rw [hgroup]
      exact congrArg Monitor.lost (State.monitorAfter_eq hs g).symm
    rw [hsupply] at hsample
    have hnext : next = ((ch.pickUp (s.recordOf i) (s.profileOf i)).work (s.rawAt pins i) after.lost).1.mark (s.rawAt pins i)
        (s.injector.covers i).isSome := by
      simp only [next, State.channelAfter_eq hs, hsample, ch]
    have hchanges : s.changesAt pins senses i = ((ch.pickUp (s.recordOf i) (s.profileOf i)).work (s.rawAt pins i) after.lost).2 := by
      rw [State.changesAt_eq, hsample]
    have hdisabled : disabled = true ↔ (s.recordOf i).enabled = false := by simp [disabled]
    rw [hnext, hchanges]
    obtain ⟨hholdSupply, hholdDisabled⟩ := Channel.work_reasons (ch := ch.pickUp (s.recordOf i) (s.profileOf i)) (raw := s.rawAt pins i) (lost := after.lost)
    refine ⟨hholdSupply, hholdDisabled, fun h => ?_, fun hok henabled hchatter hheld => ?_⟩
    · rw [hdisabled] at h
      obtain ⟨hlevel, hforgets, hadded⟩ := Channel.work_held (ch := ch.pickUp (s.recordOf i) (s.profileOf i)) (raw := s.rawAt pins i) h
      exact ⟨hlevel, hforgets, hadded.trans (congrArg (_ ++ ·) (if_congr (and_congr_left' hdisabled.symm) rfl rfl))⟩
    · have hany : ch.holds.any = true := by
        obtain h | h := hheld <;> simp [Holds.any, h]
      obtain ⟨hwork, hfree⟩ := Channel.work_freed (ch := ch.pickUp (s.recordOf i) (s.profileOf i)) (raw := s.rawAt pins i) hchatter
        (Bool.not_eq_eq_eq_not.mp henabled) hany
      rw [hok, hwork]
      exact ⟨hfree, rfl, rfl, rfl, rfl, rfl⟩
  · rw [hunmonitored] at hafter
    have hok : after = ok := hafter.trans (Monitor.sample_unmonitored m)
    exact ⟨hok, fun hlost => hmem (by rw [hok]) hlost⟩
  · rw [hmonitored] at hafter
    refine ⟨hquiet false (by rw [hreports hmonitored, hok]; simp), fun hsense => ?_, fun hsense => ⟨fun hcount => ?_, fun hcount => ?_⟩⟩ <;>
      rw [hsense] at hafter
    · rw [Monitor.sample_ok_supplied hok] at hafter
      exact ⟨hafter, hquiet true (by rw [hreports hmonitored, hafter]; simp [hok])⟩
    · rw [Monitor.sample_ok_absent hok hcount] at hafter
      exact ⟨hafter, hquiet true (by rw [hreports hmonitored, hafter]; simp [hok])⟩
    · rw [Monitor.sample_loses hok hcount] at hafter
      have hnow : after.lost = true := by rw [hafter]
      exact ⟨hoccurs true ((hreports hmonitored true).2 ⟨hnow, hok⟩), hafter, hmem hnow hok⟩
  · rw [hmonitored] at hafter
    refine ⟨hquiet true (by rw [hreports hmonitored, hlost]; simp), fun hsense => ?_, fun hsense => ⟨fun hcount => ?_, fun hcount => ?_⟩⟩ <;>
      rw [hsense] at hafter
    · rw [Monitor.sample_lost_absent hlost] at hafter
      exact ⟨hafter, hquiet false (by rw [hreports hmonitored, hafter]; simp [hlost])⟩
    · rw [Monitor.sample_lost_supplied hlost hcount] at hafter
      exact ⟨hafter, hquiet false (by rw [hreports hmonitored, hafter]; simp [hlost])⟩
    · rw [Monitor.sample_returns hlost hcount] at hafter
      have hnow : after.lost = false := by rw [hafter]
      exact ⟨hoccurs false ((hreports hmonitored false).2 ⟨hnow, hlost⟩), hafter, hmem hnow hlost⟩

end Sys2Proof.Machine
end
